-- ==== Sys2Proof/Word.lean ====
section
/-! DEFINITION. The byte and the 16-bit word (00_scope.md R5, R6). -/

namespace Sys2Proof

/-- `u8`: a register, a bus datum, an operand byte (R5, R6). -/
abbrev Byte := BitVec 8

/-- `u16`: an address, the program counter, a 16-bit operand (R5, R6). -/
abbrev Word := BitVec 16

end Sys2Proof
end

