-- ==== Sys2Proof/Syntax.lean ====
section
/-! DEFINITION. The instructions: one constructor per documented row of spec/opcode_table.json, holding the row's operand
bytes, and one constructor for its 105 `ILL` rows, holding the opcode (30_encoding.md R101, R104, R105). -/

namespace Sys2Proof

/-- An instruction as the table spells it. Fields: `v` an immediate byte, `z` a zero-page byte, `a` a 16-bit address,
`p` a 16-bit pointer, `d` a displacement byte (30_encoding.md R101, R102). -/
inductive Instr where
  -- LDA, rule R180
  | ldaImm (v : Byte)
  | ldaZp (z : Byte)
  | ldaZpx (z : Byte)
  | ldaAbs (a : Word)
  | ldaAbsx (a : Word)
  | ldaAbsy (a : Word)
  | ldaIndx (z : Byte)
  | ldaIndy (z : Byte)
  -- LDX, rule R181
  | ldxImm (v : Byte)
  | ldxZp (z : Byte)
  | ldxZpy (z : Byte)
  | ldxAbs (a : Word)
  | ldxAbsy (a : Word)
  -- LDY, rule R182
  | ldyImm (v : Byte)
  | ldyZp (z : Byte)
  | ldyZpx (z : Byte)
  | ldyAbs (a : Word)
  | ldyAbsx (a : Word)
  -- STA, rule R183
  | staZp (z : Byte)
  | staZpx (z : Byte)
  | staAbs (a : Word)
  | staAbsx (a : Word)
  | staAbsy (a : Word)
  | staIndx (z : Byte)
  | staIndy (z : Byte)
  -- STX, rule R184
  | stxZp (z : Byte)
  | stxZpy (z : Byte)
  | stxAbs (a : Word)
  -- STY, rule R185
  | styZp (z : Byte)
  | styZpx (z : Byte)
  | styAbs (a : Word)
  -- TAX, rule R186
  | tax
  -- TAY, rule R187
  | tay
  -- TXA, rule R188
  | txa
  -- TYA, rule R189
  | tya
  -- TSX, rule R190
  | tsx
  -- TXS, rule R191
  | txs
  -- ADC, rule R210
  | adcImm (v : Byte)
  | adcZp (z : Byte)
  | adcZpx (z : Byte)
  | adcAbs (a : Word)
  | adcAbsx (a : Word)
  | adcAbsy (a : Word)
  | adcIndx (z : Byte)
  | adcIndy (z : Byte)
  -- SBC, rule R213
  | sbcImm (v : Byte)
  | sbcZp (z : Byte)
  | sbcZpx (z : Byte)
  | sbcAbs (a : Word)
  | sbcAbsx (a : Word)
  | sbcAbsy (a : Word)
  | sbcIndx (z : Byte)
  | sbcIndy (z : Byte)
  -- AND, rule R216
  | andImm (v : Byte)
  | andZp (z : Byte)
  | andZpx (z : Byte)
  | andAbs (a : Word)
  | andAbsx (a : Word)
  | andAbsy (a : Word)
  | andIndx (z : Byte)
  | andIndy (z : Byte)
  -- ORA, rule R217
  | oraImm (v : Byte)
  | oraZp (z : Byte)
  | oraZpx (z : Byte)
  | oraAbs (a : Word)
  | oraAbsx (a : Word)
  | oraAbsy (a : Word)
  | oraIndx (z : Byte)
  | oraIndy (z : Byte)
  -- EOR, rule R218
  | eorImm (v : Byte)
  | eorZp (z : Byte)
  | eorZpx (z : Byte)
  | eorAbs (a : Word)
  | eorAbsx (a : Word)
  | eorAbsy (a : Word)
  | eorIndx (z : Byte)
  | eorIndy (z : Byte)
  -- CMP, rule R220
  | cmpImm (v : Byte)
  | cmpZp (z : Byte)
  | cmpZpx (z : Byte)
  | cmpAbs (a : Word)
  | cmpAbsx (a : Word)
  | cmpAbsy (a : Word)
  | cmpIndx (z : Byte)
  | cmpIndy (z : Byte)
  -- CPX, rule R221
  | cpxImm (v : Byte)
  | cpxZp (z : Byte)
  | cpxAbs (a : Word)
  -- CPY, rule R222
  | cpyImm (v : Byte)
  | cpyZp (z : Byte)
  | cpyAbs (a : Word)
  -- BIT, rule R223
  | bitZp (z : Byte)
  | bitAbs (a : Word)
  -- ASL, rule R250
  | aslAcc
  | aslZp (z : Byte)
  | aslZpx (z : Byte)
  | aslAbs (a : Word)
  | aslAbsx (a : Word)
  -- LSR, rule R251
  | lsrAcc
  | lsrZp (z : Byte)
  | lsrZpx (z : Byte)
  | lsrAbs (a : Word)
  | lsrAbsx (a : Word)
  -- ROL, rule R252
  | rolAcc
  | rolZp (z : Byte)
  | rolZpx (z : Byte)
  | rolAbs (a : Word)
  | rolAbsx (a : Word)
  -- ROR, rule R253
  | rorAcc
  | rorZp (z : Byte)
  | rorZpx (z : Byte)
  | rorAbs (a : Word)
  | rorAbsx (a : Word)
  -- INC, rule R254
  | incZp (z : Byte)
  | incZpx (z : Byte)
  | incAbs (a : Word)
  | incAbsx (a : Word)
  -- DEC, rule R255
  | decZp (z : Byte)
  | decZpx (z : Byte)
  | decAbs (a : Word)
  | decAbsx (a : Word)
  -- INX, rule R256
  | inx
  -- INY, rule R257
  | iny
  -- DEX, rule R258
  | dex
  -- DEY, rule R259
  | dey
  -- BCC, rule R281
  | bcc (d : Byte)
  -- BCS, rule R282
  | bcs (d : Byte)
  -- BEQ, rule R283
  | beq (d : Byte)
  -- BNE, rule R284
  | bne (d : Byte)
  -- BMI, rule R285
  | bmi (d : Byte)
  -- BPL, rule R286
  | bpl (d : Byte)
  -- BVC, rule R287
  | bvc (d : Byte)
  -- BVS, rule R288
  | bvs (d : Byte)
  -- JMP, rule R289, R290
  | jmpAbs (a : Word)
  | jmpInd (p : Word)
  -- JSR, rule R291
  | jsr (a : Word)
  -- RTS, rule R292
  | rts
  -- PHA, rule R310
  | pha
  -- PHP, rule R311
  | php
  -- PLA, rule R312
  | pla
  -- PLP, rule R313
  | plp
  -- BRK, rule R314
  | brk
  -- RTI, rule R315
  | rti
  -- CLC, rule R316
  | clc
  -- SEC, rule R317
  | sec
  -- CLI, rule R318
  | cli
  -- SEI, rule R319
  | sei
  -- CLD, rule R320
  | cld
  -- SED, rule R321
  | sed
  -- CLV, rule R322
  | clv
  -- NOP, rule R323
  | nop
  -- the 105 undocumented opcodes, rules R105, R340
  | ill (opcode : Byte)
  deriving DecidableEq, Repr

end Sys2Proof
end

