-- ==== Sys2Proof/Decode.lean ====
section
/-! DEFINITION. The 256-entry table, the decoder, and the encoder (30_encoding.md R100-R107). -/

namespace Sys2Proof

/-- `hi:lo` (00_scope.md R6): the word whose low byte comes first in memory (20_memory.md R75). -/
def mkWord (hi lo : Byte) : Word := hi ++ lo

/-- `w[15:8]`. -/
def hiByte (w : Word) : Byte := w.extractLsb' 8 8

/-- `w[7:0]`. -/
def loByte (w : Word) : Byte := w.extractLsb' 0 8

/-- The thirteen addressing modes, by the short names of R101. -/
inductive Mode where
  | imp | acc | imm | zp | zpx | zpy | abs | absx | absy | ind | indx | indy | rel
  deriving DecidableEq, Repr

/-- How many operand bytes follow the opcode (R100, R101). -/
def Mode.operandBytes : Mode → Nat
  | .imp | .acc => 0
  | .imm | .zp | .zpx | .zpy | .indx | .indy | .rel => 1
  | .abs | .absx | .absy | .ind => 2

/-- The 56 documented mnemonics and `ILL`, as the table spells them (R104). -/
inductive Mnemonic where
  | LDA | LDX | LDY | STA | STX | STY | TAX | TAY | TXA | TYA | TSX | TXS | ADC | SBC
  | AND | ORA | EOR | CMP | CPX | CPY | BIT | ASL | LSR | ROL | ROR | INC | DEC | INX
  | INY | DEX | DEY | BCC | BCS | BEQ | BNE | BMI | BPL | BVC | BVS | JMP | JSR | RTS
  | PHA | PHP | PLA | PLP | BRK | RTI | CLC | SEC | CLI | SEI | CLD | SED | CLV | NOP
  | ILL
  deriving DecidableEq, Repr

/-- The operand of a mode that yields an effective address (41_addressing.md R154-R162). -/
inductive MemOperand where
  | zp (z : Byte)
  | zpx (z : Byte)
  | zpy (z : Byte)
  | abs (a : Word)
  | absx (a : Word)
  | absy (a : Word)
  | ind (p : Word)
  | indx (z : Byte)
  | indy (z : Byte)
  deriving DecidableEq, Repr

/-- The operand an instruction holds, by mode (R101). -/
inductive Operand where
  | imp
  | acc
  | imm (v : Byte)
  | mem (m : MemOperand)
  | rel (d : Byte)
  deriving DecidableEq, Repr

def MemOperand.mode : MemOperand → Mode
  | .zp _ => .zp
  | .zpx _ => .zpx
  | .zpy _ => .zpy
  | .abs _ => .abs
  | .absx _ => .absx
  | .absy _ => .absy
  | .ind _ => .ind
  | .indx _ => .indx
  | .indy _ => .indy

def Operand.mode : Operand → Mode
  | .imp => .imp
  | .acc => .acc
  | .imm _ => .imm
  | .mem m => m.mode
  | .rel _ => .rel

/-- The operand bytes in the order they follow the opcode: a 16-bit value low byte first (R101, R102). -/
def Operand.bytes : Operand → List Byte
  | .imp | .acc => []
  | .imm v => [v]
  | .mem (.zp z) | .mem (.zpx z) | .mem (.zpy z) | .mem (.indx z) | .mem (.indy z) => [z]
  | .mem (.abs a) | .mem (.absx a) | .mem (.absy a) | .mem (.ind a) => [loByte a, hiByte a]
  | .rel d => [d]

/-- One entry of the table (40_engine.md R135): mnemonic, mode, base cycles, the two penalties of
70_reset_and_hazards.md R410, and whether the opcode is documented. -/
structure Entry where
  mnemonic : Mnemonic
  mode : Mode
  cycles : Nat
  pageCrossPenalty : Bool
  branchPenalty : Bool
  documented : Bool
  deriving DecidableEq, Repr

/-- An entry with a fixed cost. -/
def row (m : Mnemonic) (mode : Mode) (cycles : Nat) : Entry := ⟨m, mode, cycles, false, false, true⟩

/-- An entry marked `*` in R410: one cycle more when the page is crossed. -/
def rowPage (m : Mnemonic) (mode : Mode) (cycles : Nat) : Entry := ⟨m, mode, cycles, true, false, true⟩

/-- An entry marked `b` in R410: one cycle more when taken, another when taken across a page. -/
def rowBranch (m : Mnemonic) : Entry := ⟨m, .rel, 2, false, true, true⟩

/-- An undocumented opcode: no operand byte, no cycle (47_illegal.md R340). -/
def rowIll : Entry := ⟨.ILL, .imp, 0, false, false, false⟩

/-- Opcodes 0x00 to 0x0F of opcode_table.json (R104, R410). -/
def entryRow0 : List Entry :=
  [row .BRK .imp 7, row .ORA .indx 6, rowIll, rowIll,
   rowIll, row .ORA .zp 3, row .ASL .zp 5, rowIll,
   row .PHP .imp 3, row .ORA .imm 2, row .ASL .acc 2, rowIll,
   rowIll, row .ORA .abs 4, row .ASL .abs 6, rowIll]

/-- Opcodes 0x10 to 0x1F of opcode_table.json (R104, R410). -/
def entryRow1 : List Entry :=
  [rowBranch .BPL, rowPage .ORA .indy 5, rowIll, rowIll,
   rowIll, row .ORA .zpx 4, row .ASL .zpx 6, rowIll,
   row .CLC .imp 2, rowPage .ORA .absy 4, rowIll, rowIll,
   rowIll, rowPage .ORA .absx 4, row .ASL .absx 7, rowIll]

/-- Opcodes 0x20 to 0x2F of opcode_table.json (R104, R410). -/
def entryRow2 : List Entry :=
  [row .JSR .abs 6, row .AND .indx 6, rowIll, rowIll,
   row .BIT .zp 3, row .AND .zp 3, row .ROL .zp 5, rowIll,
   row .PLP .imp 4, row .AND .imm 2, row .ROL .acc 2, rowIll,
   row .BIT .abs 4, row .AND .abs 4, row .ROL .abs 6, rowIll]

/-- Opcodes 0x30 to 0x3F of opcode_table.json (R104, R410). -/
def entryRow3 : List Entry :=
  [rowBranch .BMI, rowPage .AND .indy 5, rowIll, rowIll,
   rowIll, row .AND .zpx 4, row .ROL .zpx 6, rowIll,
   row .SEC .imp 2, rowPage .AND .absy 4, rowIll, rowIll,
   rowIll, rowPage .AND .absx 4, row .ROL .absx 7, rowIll]

/-- Opcodes 0x40 to 0x4F of opcode_table.json (R104, R410). -/
def entryRow4 : List Entry :=
  [row .RTI .imp 6, row .EOR .indx 6, rowIll, rowIll,
   rowIll, row .EOR .zp 3, row .LSR .zp 5, rowIll,
   row .PHA .imp 3, row .EOR .imm 2, row .LSR .acc 2, rowIll,
   row .JMP .abs 3, row .EOR .abs 4, row .LSR .abs 6, rowIll]

/-- Opcodes 0x50 to 0x5F of opcode_table.json (R104, R410). -/
def entryRow5 : List Entry :=
  [rowBranch .BVC, rowPage .EOR .indy 5, rowIll, rowIll,
   rowIll, row .EOR .zpx 4, row .LSR .zpx 6, rowIll,
   row .CLI .imp 2, rowPage .EOR .absy 4, rowIll, rowIll,
   rowIll, rowPage .EOR .absx 4, row .LSR .absx 7, rowIll]

/-- Opcodes 0x60 to 0x6F of opcode_table.json (R104, R410). -/
def entryRow6 : List Entry :=
  [row .RTS .imp 6, row .ADC .indx 6, rowIll, rowIll,
   rowIll, row .ADC .zp 3, row .ROR .zp 5, rowIll,
   row .PLA .imp 4, row .ADC .imm 2, row .ROR .acc 2, rowIll,
   row .JMP .ind 5, row .ADC .abs 4, row .ROR .abs 6, rowIll]

/-- Opcodes 0x70 to 0x7F of opcode_table.json (R104, R410). -/
def entryRow7 : List Entry :=
  [rowBranch .BVS, rowPage .ADC .indy 5, rowIll, rowIll,
   rowIll, row .ADC .zpx 4, row .ROR .zpx 6, rowIll,
   row .SEI .imp 2, rowPage .ADC .absy 4, rowIll, rowIll,
   rowIll, rowPage .ADC .absx 4, row .ROR .absx 7, rowIll]

/-- Opcodes 0x80 to 0x8F of opcode_table.json (R104, R410). -/
def entryRow8 : List Entry :=
  [rowIll, row .STA .indx 6, rowIll, rowIll,
   row .STY .zp 3, row .STA .zp 3, row .STX .zp 3, rowIll,
   row .DEY .imp 2, rowIll, row .TXA .imp 2, rowIll,
   row .STY .abs 4, row .STA .abs 4, row .STX .abs 4, rowIll]

/-- Opcodes 0x90 to 0x9F of opcode_table.json (R104, R410). -/
def entryRow9 : List Entry :=
  [rowBranch .BCC, row .STA .indy 6, rowIll, rowIll,
   row .STY .zpx 4, row .STA .zpx 4, row .STX .zpy 4, rowIll,
   row .TYA .imp 2, row .STA .absy 5, row .TXS .imp 2, rowIll,
   rowIll, row .STA .absx 5, rowIll, rowIll]

/-- Opcodes 0xA0 to 0xAF of opcode_table.json (R104, R410). -/
def entryRowA : List Entry :=
  [row .LDY .imm 2, row .LDA .indx 6, row .LDX .imm 2, rowIll,
   row .LDY .zp 3, row .LDA .zp 3, row .LDX .zp 3, rowIll,
   row .TAY .imp 2, row .LDA .imm 2, row .TAX .imp 2, rowIll,
   row .LDY .abs 4, row .LDA .abs 4, row .LDX .abs 4, rowIll]

/-- Opcodes 0xB0 to 0xBF of opcode_table.json (R104, R410). -/
def entryRowB : List Entry :=
  [rowBranch .BCS, rowPage .LDA .indy 5, rowIll, rowIll,
   row .LDY .zpx 4, row .LDA .zpx 4, row .LDX .zpy 4, rowIll,
   row .CLV .imp 2, rowPage .LDA .absy 4, row .TSX .imp 2, rowIll,
   rowPage .LDY .absx 4, rowPage .LDA .absx 4, rowPage .LDX .absy 4, rowIll]

/-- Opcodes 0xC0 to 0xCF of opcode_table.json (R104, R410). -/
def entryRowC : List Entry :=
  [row .CPY .imm 2, row .CMP .indx 6, rowIll, rowIll,
   row .CPY .zp 3, row .CMP .zp 3, row .DEC .zp 5, rowIll,
   row .INY .imp 2, row .CMP .imm 2, row .DEX .imp 2, rowIll,
   row .CPY .abs 4, row .CMP .abs 4, row .DEC .abs 6, rowIll]

/-- Opcodes 0xD0 to 0xDF of opcode_table.json (R104, R410). -/
def entryRowD : List Entry :=
  [rowBranch .BNE, rowPage .CMP .indy 5, rowIll, rowIll,
   rowIll, row .CMP .zpx 4, row .DEC .zpx 6, rowIll,
   row .CLD .imp 2, rowPage .CMP .absy 4, rowIll, rowIll,
   rowIll, rowPage .CMP .absx 4, row .DEC .absx 7, rowIll]

/-- Opcodes 0xE0 to 0xEF of opcode_table.json (R104, R410). -/
def entryRowE : List Entry :=
  [row .CPX .imm 2, row .SBC .indx 6, rowIll, rowIll,
   row .CPX .zp 3, row .SBC .zp 3, row .INC .zp 5, rowIll,
   row .INX .imp 2, row .SBC .imm 2, row .NOP .imp 2, rowIll,
   row .CPX .abs 4, row .SBC .abs 4, row .INC .abs 6, rowIll]

/-- Opcodes 0xF0 to 0xFF of opcode_table.json (R104, R410). -/
def entryRowF : List Entry :=
  [rowBranch .BEQ, rowPage .SBC .indy 5, rowIll, rowIll,
   rowIll, row .SBC .zpx 4, row .INC .zpx 6, rowIll,
   row .SED .imp 2, rowPage .SBC .absy 4, rowIll, rowIll,
   rowIll, rowPage .SBC .absx 4, row .INC .absx 7, rowIll]

/-- The table, one list per high nibble. -/
def entryTable : List (List Entry) :=
  [entryRow0, entryRow1, entryRow2, entryRow3, entryRow4, entryRow5, entryRow6, entryRow7,
   entryRow8, entryRow9, entryRowA, entryRowB, entryRowC, entryRowD, entryRowE, entryRowF]

/-- `TABLE[opcode]` (40_engine.md R135). -/
def entry (op : Byte) : Entry := (entryTable.getD (op.toNat / 16) []).getD (op.toNat % 16) rowIll

/-- A cell of the opcode map: the instruction, given its first and second operand byte. -/
abbrev MapCell := Byte → Byte → Instr

/-- Row 0x of the opcode map (R104). -/
def mapRow0 : List MapCell :=
  [fun _ _ => .brk, fun z _ => .oraIndx z,
   fun _ _ => .ill 0x02, fun _ _ => .ill 0x03,
   fun _ _ => .ill 0x04, fun z _ => .oraZp z,
   fun z _ => .aslZp z, fun _ _ => .ill 0x07,
   fun _ _ => .php, fun v _ => .oraImm v,
   fun _ _ => .aslAcc, fun _ _ => .ill 0x0B,
   fun _ _ => .ill 0x0C, fun lo hi => .oraAbs (mkWord hi lo),
   fun lo hi => .aslAbs (mkWord hi lo), fun _ _ => .ill 0x0F]

/-- Row 1x of the opcode map (R104). -/
def mapRow1 : List MapCell :=
  [fun d _ => .bpl d, fun z _ => .oraIndy z,
   fun _ _ => .ill 0x12, fun _ _ => .ill 0x13,
   fun _ _ => .ill 0x14, fun z _ => .oraZpx z,
   fun z _ => .aslZpx z, fun _ _ => .ill 0x17,
   fun _ _ => .clc, fun lo hi => .oraAbsy (mkWord hi lo),
   fun _ _ => .ill 0x1A, fun _ _ => .ill 0x1B,
   fun _ _ => .ill 0x1C, fun lo hi => .oraAbsx (mkWord hi lo),
   fun lo hi => .aslAbsx (mkWord hi lo), fun _ _ => .ill 0x1F]

/-- Row 2x of the opcode map (R104). -/
def mapRow2 : List MapCell :=
  [fun lo hi => .jsr (mkWord hi lo), fun z _ => .andIndx z,
   fun _ _ => .ill 0x22, fun _ _ => .ill 0x23,
   fun z _ => .bitZp z, fun z _ => .andZp z,
   fun z _ => .rolZp z, fun _ _ => .ill 0x27,
   fun _ _ => .plp, fun v _ => .andImm v,
   fun _ _ => .rolAcc, fun _ _ => .ill 0x2B,
   fun lo hi => .bitAbs (mkWord hi lo), fun lo hi => .andAbs (mkWord hi lo),
   fun lo hi => .rolAbs (mkWord hi lo), fun _ _ => .ill 0x2F]

/-- Row 3x of the opcode map (R104). -/
def mapRow3 : List MapCell :=
  [fun d _ => .bmi d, fun z _ => .andIndy z,
   fun _ _ => .ill 0x32, fun _ _ => .ill 0x33,
   fun _ _ => .ill 0x34, fun z _ => .andZpx z,
   fun z _ => .rolZpx z, fun _ _ => .ill 0x37,
   fun _ _ => .sec, fun lo hi => .andAbsy (mkWord hi lo),
   fun _ _ => .ill 0x3A, fun _ _ => .ill 0x3B,
   fun _ _ => .ill 0x3C, fun lo hi => .andAbsx (mkWord hi lo),
   fun lo hi => .rolAbsx (mkWord hi lo), fun _ _ => .ill 0x3F]

/-- Row 4x of the opcode map (R104). -/
def mapRow4 : List MapCell :=
  [fun _ _ => .rti, fun z _ => .eorIndx z,
   fun _ _ => .ill 0x42, fun _ _ => .ill 0x43,
   fun _ _ => .ill 0x44, fun z _ => .eorZp z,
   fun z _ => .lsrZp z, fun _ _ => .ill 0x47,
   fun _ _ => .pha, fun v _ => .eorImm v,
   fun _ _ => .lsrAcc, fun _ _ => .ill 0x4B,
   fun lo hi => .jmpAbs (mkWord hi lo), fun lo hi => .eorAbs (mkWord hi lo),
   fun lo hi => .lsrAbs (mkWord hi lo), fun _ _ => .ill 0x4F]

/-- Row 5x of the opcode map (R104). -/
def mapRow5 : List MapCell :=
  [fun d _ => .bvc d, fun z _ => .eorIndy z,
   fun _ _ => .ill 0x52, fun _ _ => .ill 0x53,
   fun _ _ => .ill 0x54, fun z _ => .eorZpx z,
   fun z _ => .lsrZpx z, fun _ _ => .ill 0x57,
   fun _ _ => .cli, fun lo hi => .eorAbsy (mkWord hi lo),
   fun _ _ => .ill 0x5A, fun _ _ => .ill 0x5B,
   fun _ _ => .ill 0x5C, fun lo hi => .eorAbsx (mkWord hi lo),
   fun lo hi => .lsrAbsx (mkWord hi lo), fun _ _ => .ill 0x5F]

/-- Row 6x of the opcode map (R104). -/
def mapRow6 : List MapCell :=
  [fun _ _ => .rts, fun z _ => .adcIndx z,
   fun _ _ => .ill 0x62, fun _ _ => .ill 0x63,
   fun _ _ => .ill 0x64, fun z _ => .adcZp z,
   fun z _ => .rorZp z, fun _ _ => .ill 0x67,
   fun _ _ => .pla, fun v _ => .adcImm v,
   fun _ _ => .rorAcc, fun _ _ => .ill 0x6B,
   fun lo hi => .jmpInd (mkWord hi lo), fun lo hi => .adcAbs (mkWord hi lo),
   fun lo hi => .rorAbs (mkWord hi lo), fun _ _ => .ill 0x6F]

/-- Row 7x of the opcode map (R104). -/
def mapRow7 : List MapCell :=
  [fun d _ => .bvs d, fun z _ => .adcIndy z,
   fun _ _ => .ill 0x72, fun _ _ => .ill 0x73,
   fun _ _ => .ill 0x74, fun z _ => .adcZpx z,
   fun z _ => .rorZpx z, fun _ _ => .ill 0x77,
   fun _ _ => .sei, fun lo hi => .adcAbsy (mkWord hi lo),
   fun _ _ => .ill 0x7A, fun _ _ => .ill 0x7B,
   fun _ _ => .ill 0x7C, fun lo hi => .adcAbsx (mkWord hi lo),
   fun lo hi => .rorAbsx (mkWord hi lo), fun _ _ => .ill 0x7F]

/-- Row 8x of the opcode map (R104). -/
def mapRow8 : List MapCell :=
  [fun _ _ => .ill 0x80, fun z _ => .staIndx z,
   fun _ _ => .ill 0x82, fun _ _ => .ill 0x83,
   fun z _ => .styZp z, fun z _ => .staZp z,
   fun z _ => .stxZp z, fun _ _ => .ill 0x87,
   fun _ _ => .dey, fun _ _ => .ill 0x89,
   fun _ _ => .txa, fun _ _ => .ill 0x8B,
   fun lo hi => .styAbs (mkWord hi lo), fun lo hi => .staAbs (mkWord hi lo),
   fun lo hi => .stxAbs (mkWord hi lo), fun _ _ => .ill 0x8F]

/-- Row 9x of the opcode map (R104). -/
def mapRow9 : List MapCell :=
  [fun d _ => .bcc d, fun z _ => .staIndy z,
   fun _ _ => .ill 0x92, fun _ _ => .ill 0x93,
   fun z _ => .styZpx z, fun z _ => .staZpx z,
   fun z _ => .stxZpy z, fun _ _ => .ill 0x97,
   fun _ _ => .tya, fun lo hi => .staAbsy (mkWord hi lo),
   fun _ _ => .txs, fun _ _ => .ill 0x9B,
   fun _ _ => .ill 0x9C, fun lo hi => .staAbsx (mkWord hi lo),
   fun _ _ => .ill 0x9E, fun _ _ => .ill 0x9F]

/-- Row Ax of the opcode map (R104). -/
def mapRowA : List MapCell :=
  [fun v _ => .ldyImm v, fun z _ => .ldaIndx z,
   fun v _ => .ldxImm v, fun _ _ => .ill 0xA3,
   fun z _ => .ldyZp z, fun z _ => .ldaZp z,
   fun z _ => .ldxZp z, fun _ _ => .ill 0xA7,
   fun _ _ => .tay, fun v _ => .ldaImm v,
   fun _ _ => .tax, fun _ _ => .ill 0xAB,
   fun lo hi => .ldyAbs (mkWord hi lo), fun lo hi => .ldaAbs (mkWord hi lo),
   fun lo hi => .ldxAbs (mkWord hi lo), fun _ _ => .ill 0xAF]

/-- Row Bx of the opcode map (R104). -/
def mapRowB : List MapCell :=
  [fun d _ => .bcs d, fun z _ => .ldaIndy z,
   fun _ _ => .ill 0xB2, fun _ _ => .ill 0xB3,
   fun z _ => .ldyZpx z, fun z _ => .ldaZpx z,
   fun z _ => .ldxZpy z, fun _ _ => .ill 0xB7,
   fun _ _ => .clv, fun lo hi => .ldaAbsy (mkWord hi lo),
   fun _ _ => .tsx, fun _ _ => .ill 0xBB,
   fun lo hi => .ldyAbsx (mkWord hi lo), fun lo hi => .ldaAbsx (mkWord hi lo),
   fun lo hi => .ldxAbsy (mkWord hi lo), fun _ _ => .ill 0xBF]

/-- Row Cx of the opcode map (R104). -/
def mapRowC : List MapCell :=
  [fun v _ => .cpyImm v, fun z _ => .cmpIndx z,
   fun _ _ => .ill 0xC2, fun _ _ => .ill 0xC3,
   fun z _ => .cpyZp z, fun z _ => .cmpZp z,
   fun z _ => .decZp z, fun _ _ => .ill 0xC7,
   fun _ _ => .iny, fun v _ => .cmpImm v,
   fun _ _ => .dex, fun _ _ => .ill 0xCB,
   fun lo hi => .cpyAbs (mkWord hi lo), fun lo hi => .cmpAbs (mkWord hi lo),
   fun lo hi => .decAbs (mkWord hi lo), fun _ _ => .ill 0xCF]

/-- Row Dx of the opcode map (R104). -/
def mapRowD : List MapCell :=
  [fun d _ => .bne d, fun z _ => .cmpIndy z,
   fun _ _ => .ill 0xD2, fun _ _ => .ill 0xD3,
   fun _ _ => .ill 0xD4, fun z _ => .cmpZpx z,
   fun z _ => .decZpx z, fun _ _ => .ill 0xD7,
   fun _ _ => .cld, fun lo hi => .cmpAbsy (mkWord hi lo),
   fun _ _ => .ill 0xDA, fun _ _ => .ill 0xDB,
   fun _ _ => .ill 0xDC, fun lo hi => .cmpAbsx (mkWord hi lo),
   fun lo hi => .decAbsx (mkWord hi lo), fun _ _ => .ill 0xDF]

/-- Row Ex of the opcode map (R104). -/
def mapRowE : List MapCell :=
  [fun v _ => .cpxImm v, fun z _ => .sbcIndx z,
   fun _ _ => .ill 0xE2, fun _ _ => .ill 0xE3,
   fun z _ => .cpxZp z, fun z _ => .sbcZp z,
   fun z _ => .incZp z, fun _ _ => .ill 0xE7,
   fun _ _ => .inx, fun v _ => .sbcImm v,
   fun _ _ => .nop, fun _ _ => .ill 0xEB,
   fun lo hi => .cpxAbs (mkWord hi lo), fun lo hi => .sbcAbs (mkWord hi lo),
   fun lo hi => .incAbs (mkWord hi lo), fun _ _ => .ill 0xEF]

/-- Row Fx of the opcode map (R104). -/
def mapRowF : List MapCell :=
  [fun d _ => .beq d, fun z _ => .sbcIndy z,
   fun _ _ => .ill 0xF2, fun _ _ => .ill 0xF3,
   fun _ _ => .ill 0xF4, fun z _ => .sbcZpx z,
   fun z _ => .incZpx z, fun _ _ => .ill 0xF7,
   fun _ _ => .sed, fun lo hi => .sbcAbsy (mkWord hi lo),
   fun _ _ => .ill 0xFA, fun _ _ => .ill 0xFB,
   fun _ _ => .ill 0xFC, fun lo hi => .sbcAbsx (mkWord hi lo),
   fun lo hi => .incAbsx (mkWord hi lo), fun _ _ => .ill 0xFF]

/-- The opcode map (R104): row = high nibble, column = low nibble. -/
def opcodeMap : List (List MapCell) :=
  [mapRow0, mapRow1, mapRow2, mapRow3, mapRow4, mapRow5, mapRow6, mapRow7,
   mapRow8, mapRow9, mapRowA, mapRowB, mapRowC, mapRowD, mapRowE, mapRowF]

/-- The instruction of an opcode byte and its operand bytes; an operand byte the mode does not have is ignored
(R103, R104). -/
def instrOf (op b1 b2 : Byte) : Instr :=
  (opcodeMap.getD (op.toNat / 16) []).getD (op.toNat % 16) (fun _ _ => .ill op) b1 b2

/-- Why bytes are no instruction. Every opcode value has an entry (R105), so only bytes that are missing remain. -/
inductive DecodeError where
  | noOpcode
  | truncated (opcode : Byte)
  deriving DecidableEq, Repr

/-- Decode the first instruction of a byte list, and give the bytes after it (R100, R104). -/
def decode : List Byte → Except DecodeError (Instr × List Byte)
  | [] => .error .noOpcode
  | op :: rest =>
    match (entry op).mode.operandBytes, rest with
    | 0, rest => .ok (instrOf op 0 0, rest)
    | 1, b1 :: rest => .ok (instrOf op b1 0, rest)
    | 2, b1 :: b2 :: rest => .ok (instrOf op b1 b2, rest)
    | _, _ => .error (.truncated op)

/-- The three bytes of an instruction numbered as the opcode table numbers its bits: bit 0 is the least significant bit
of the first byte; every bit from `nbits` up is 0. -/
def tableBytes (nbits w : Nat) : List Byte :=
  [BitVec.ofNat 8 (w % 2 ^ nbits), BitVec.ofNat 8 (w % 2 ^ nbits / 2 ^ 8), BitVec.ofNat 8 (w % 2 ^ nbits / 2 ^ 16)]

/-- The instruction the decoder reads from a word of the opcode table. -/
def decodeTableWord (nbits w : Nat) : Option Instr :=
  match decode (tableBytes nbits w) with
  | .ok (i, _) => some i
  | .error _ => none

/-! ### The encoder, from the per-instruction tables of files 42 to 47 -/

/-- The mnemonic of an instruction. -/
def Instr.mnemonic : Instr → Mnemonic
  | .ldaImm _ | .ldaZp _ | .ldaZpx _ | .ldaAbs _ | .ldaAbsx _ | .ldaAbsy _ | .ldaIndx _ | .ldaIndy _ => .LDA
  | .ldxImm _ | .ldxZp _ | .ldxZpy _ | .ldxAbs _ | .ldxAbsy _ => .LDX
  | .ldyImm _ | .ldyZp _ | .ldyZpx _ | .ldyAbs _ | .ldyAbsx _ => .LDY
  | .staZp _ | .staZpx _ | .staAbs _ | .staAbsx _ | .staAbsy _ | .staIndx _ | .staIndy _ => .STA
  | .stxZp _ | .stxZpy _ | .stxAbs _ => .STX
  | .styZp _ | .styZpx _ | .styAbs _ => .STY
  | .tax => .TAX
  | .tay => .TAY
  | .txa => .TXA
  | .tya => .TYA
  | .tsx => .TSX
  | .txs => .TXS
  | .adcImm _ | .adcZp _ | .adcZpx _ | .adcAbs _ | .adcAbsx _ | .adcAbsy _ | .adcIndx _ | .adcIndy _ => .ADC
  | .sbcImm _ | .sbcZp _ | .sbcZpx _ | .sbcAbs _ | .sbcAbsx _ | .sbcAbsy _ | .sbcIndx _ | .sbcIndy _ => .SBC
  | .andImm _ | .andZp _ | .andZpx _ | .andAbs _ | .andAbsx _ | .andAbsy _ | .andIndx _ | .andIndy _ => .AND
  | .oraImm _ | .oraZp _ | .oraZpx _ | .oraAbs _ | .oraAbsx _ | .oraAbsy _ | .oraIndx _ | .oraIndy _ => .ORA
  | .eorImm _ | .eorZp _ | .eorZpx _ | .eorAbs _ | .eorAbsx _ | .eorAbsy _ | .eorIndx _ | .eorIndy _ => .EOR
  | .cmpImm _ | .cmpZp _ | .cmpZpx _ | .cmpAbs _ | .cmpAbsx _ | .cmpAbsy _ | .cmpIndx _ | .cmpIndy _ => .CMP
  | .cpxImm _ | .cpxZp _ | .cpxAbs _ => .CPX
  | .cpyImm _ | .cpyZp _ | .cpyAbs _ => .CPY
  | .bitZp _ | .bitAbs _ => .BIT
  | .aslAcc | .aslZp _ | .aslZpx _ | .aslAbs _ | .aslAbsx _ => .ASL
  | .lsrAcc | .lsrZp _ | .lsrZpx _ | .lsrAbs _ | .lsrAbsx _ => .LSR
  | .rolAcc | .rolZp _ | .rolZpx _ | .rolAbs _ | .rolAbsx _ => .ROL
  | .rorAcc | .rorZp _ | .rorZpx _ | .rorAbs _ | .rorAbsx _ => .ROR
  | .incZp _ | .incZpx _ | .incAbs _ | .incAbsx _ => .INC
  | .decZp _ | .decZpx _ | .decAbs _ | .decAbsx _ => .DEC
  | .inx => .INX
  | .iny => .INY
  | .dex => .DEX
  | .dey => .DEY
  | .bcc _ => .BCC
  | .bcs _ => .BCS
  | .beq _ => .BEQ
  | .bne _ => .BNE
  | .bmi _ => .BMI
  | .bpl _ => .BPL
  | .bvc _ => .BVC
  | .bvs _ => .BVS
  | .jmpAbs _ | .jmpInd _ => .JMP
  | .jsr _ => .JSR
  | .rts => .RTS
  | .pha => .PHA
  | .php => .PHP
  | .pla => .PLA
  | .plp => .PLP
  | .brk => .BRK
  | .rti => .RTI
  | .clc => .CLC
  | .sec => .SEC
  | .cli => .CLI
  | .sei => .SEI
  | .cld => .CLD
  | .sed => .SED
  | .clv => .CLV
  | .nop => .NOP
  | .ill _ => .ILL

/-- The operand of an instruction, by its mode. -/
def Instr.operand : Instr → Operand
  | .ldaImm v => .imm v
  | .ldaZp z => .mem (.zp z)
  | .ldaZpx z => .mem (.zpx z)
  | .ldaAbs a => .mem (.abs a)
  | .ldaAbsx a => .mem (.absx a)
  | .ldaAbsy a => .mem (.absy a)
  | .ldaIndx z => .mem (.indx z)
  | .ldaIndy z => .mem (.indy z)
  | .ldxImm v => .imm v
  | .ldxZp z => .mem (.zp z)
  | .ldxZpy z => .mem (.zpy z)
  | .ldxAbs a => .mem (.abs a)
  | .ldxAbsy a => .mem (.absy a)
  | .ldyImm v => .imm v
  | .ldyZp z => .mem (.zp z)
  | .ldyZpx z => .mem (.zpx z)
  | .ldyAbs a => .mem (.abs a)
  | .ldyAbsx a => .mem (.absx a)
  | .staZp z => .mem (.zp z)
  | .staZpx z => .mem (.zpx z)
  | .staAbs a => .mem (.abs a)
  | .staAbsx a => .mem (.absx a)
  | .staAbsy a => .mem (.absy a)
  | .staIndx z => .mem (.indx z)
  | .staIndy z => .mem (.indy z)
  | .stxZp z => .mem (.zp z)
  | .stxZpy z => .mem (.zpy z)
  | .stxAbs a => .mem (.abs a)
  | .styZp z => .mem (.zp z)
  | .styZpx z => .mem (.zpx z)
  | .styAbs a => .mem (.abs a)
  | .tax => .imp
  | .tay => .imp
  | .txa => .imp
  | .tya => .imp
  | .tsx => .imp
  | .txs => .imp
  | .adcImm v => .imm v
  | .adcZp z => .mem (.zp z)
  | .adcZpx z => .mem (.zpx z)
  | .adcAbs a => .mem (.abs a)
  | .adcAbsx a => .mem (.absx a)
  | .adcAbsy a => .mem (.absy a)
  | .adcIndx z => .mem (.indx z)
  | .adcIndy z => .mem (.indy z)
  | .sbcImm v => .imm v
  | .sbcZp z => .mem (.zp z)
  | .sbcZpx z => .mem (.zpx z)
  | .sbcAbs a => .mem (.abs a)
  | .sbcAbsx a => .mem (.absx a)
  | .sbcAbsy a => .mem (.absy a)
  | .sbcIndx z => .mem (.indx z)
  | .sbcIndy z => .mem (.indy z)
  | .andImm v => .imm v
  | .andZp z => .mem (.zp z)
  | .andZpx z => .mem (.zpx z)
  | .andAbs a => .mem (.abs a)
  | .andAbsx a => .mem (.absx a)
  | .andAbsy a => .mem (.absy a)
  | .andIndx z => .mem (.indx z)
  | .andIndy z => .mem (.indy z)
  | .oraImm v => .imm v
  | .oraZp z => .mem (.zp z)
  | .oraZpx z => .mem (.zpx z)
  | .oraAbs a => .mem (.abs a)
  | .oraAbsx a => .mem (.absx a)
  | .oraAbsy a => .mem (.absy a)
  | .oraIndx z => .mem (.indx z)
  | .oraIndy z => .mem (.indy z)
  | .eorImm v => .imm v
  | .eorZp z => .mem (.zp z)
  | .eorZpx z => .mem (.zpx z)
  | .eorAbs a => .mem (.abs a)
  | .eorAbsx a => .mem (.absx a)
  | .eorAbsy a => .mem (.absy a)
  | .eorIndx z => .mem (.indx z)
  | .eorIndy z => .mem (.indy z)
  | .cmpImm v => .imm v
  | .cmpZp z => .mem (.zp z)
  | .cmpZpx z => .mem (.zpx z)
  | .cmpAbs a => .mem (.abs a)
  | .cmpAbsx a => .mem (.absx a)
  | .cmpAbsy a => .mem (.absy a)
  | .cmpIndx z => .mem (.indx z)
  | .cmpIndy z => .mem (.indy z)
  | .cpxImm v => .imm v
  | .cpxZp z => .mem (.zp z)
  | .cpxAbs a => .mem (.abs a)
  | .cpyImm v => .imm v
  | .cpyZp z => .mem (.zp z)
  | .cpyAbs a => .mem (.abs a)
  | .bitZp z => .mem (.zp z)
  | .bitAbs a => .mem (.abs a)
  | .aslAcc => .acc
  | .aslZp z => .mem (.zp z)
  | .aslZpx z => .mem (.zpx z)
  | .aslAbs a => .mem (.abs a)
  | .aslAbsx a => .mem (.absx a)
  | .lsrAcc => .acc
  | .lsrZp z => .mem (.zp z)
  | .lsrZpx z => .mem (.zpx z)
  | .lsrAbs a => .mem (.abs a)
  | .lsrAbsx a => .mem (.absx a)
  | .rolAcc => .acc
  | .rolZp z => .mem (.zp z)
  | .rolZpx z => .mem (.zpx z)
  | .rolAbs a => .mem (.abs a)
  | .rolAbsx a => .mem (.absx a)
  | .rorAcc => .acc
  | .rorZp z => .mem (.zp z)
  | .rorZpx z => .mem (.zpx z)
  | .rorAbs a => .mem (.abs a)
  | .rorAbsx a => .mem (.absx a)
  | .incZp z => .mem (.zp z)
  | .incZpx z => .mem (.zpx z)
  | .incAbs a => .mem (.abs a)
  | .incAbsx a => .mem (.absx a)
  | .decZp z => .mem (.zp z)
  | .decZpx z => .mem (.zpx z)
  | .decAbs a => .mem (.abs a)
  | .decAbsx a => .mem (.absx a)
  | .inx => .imp
  | .iny => .imp
  | .dex => .imp
  | .dey => .imp
  | .bcc d => .rel d
  | .bcs d => .rel d
  | .beq d => .rel d
  | .bne d => .rel d
  | .bmi d => .rel d
  | .bpl d => .rel d
  | .bvc d => .rel d
  | .bvs d => .rel d
  | .jmpAbs a => .mem (.abs a)
  | .jmpInd p => .mem (.ind p)
  | .jsr a => .mem (.abs a)
  | .rts => .imp
  | .pha => .imp
  | .php => .imp
  | .pla => .imp
  | .plp => .imp
  | .brk => .imp
  | .rti => .imp
  | .clc => .imp
  | .sec => .imp
  | .cli => .imp
  | .sei => .imp
  | .cld => .imp
  | .sed => .imp
  | .clv => .imp
  | .nop => .imp
  | .ill _ => .imp

/-- The opcode of an instruction. -/
def Instr.opcode : Instr → Byte
  | .ldaImm _ => 0xA9
  | .ldaZp _ => 0xA5
  | .ldaZpx _ => 0xB5
  | .ldaAbs _ => 0xAD
  | .ldaAbsx _ => 0xBD
  | .ldaAbsy _ => 0xB9
  | .ldaIndx _ => 0xA1
  | .ldaIndy _ => 0xB1
  | .ldxImm _ => 0xA2
  | .ldxZp _ => 0xA6
  | .ldxZpy _ => 0xB6
  | .ldxAbs _ => 0xAE
  | .ldxAbsy _ => 0xBE
  | .ldyImm _ => 0xA0
  | .ldyZp _ => 0xA4
  | .ldyZpx _ => 0xB4
  | .ldyAbs _ => 0xAC
  | .ldyAbsx _ => 0xBC
  | .staZp _ => 0x85
  | .staZpx _ => 0x95
  | .staAbs _ => 0x8D
  | .staAbsx _ => 0x9D
  | .staAbsy _ => 0x99
  | .staIndx _ => 0x81
  | .staIndy _ => 0x91
  | .stxZp _ => 0x86
  | .stxZpy _ => 0x96
  | .stxAbs _ => 0x8E
  | .styZp _ => 0x84
  | .styZpx _ => 0x94
  | .styAbs _ => 0x8C
  | .tax => 0xAA
  | .tay => 0xA8
  | .txa => 0x8A
  | .tya => 0x98
  | .tsx => 0xBA
  | .txs => 0x9A
  | .adcImm _ => 0x69
  | .adcZp _ => 0x65
  | .adcZpx _ => 0x75
  | .adcAbs _ => 0x6D
  | .adcAbsx _ => 0x7D
  | .adcAbsy _ => 0x79
  | .adcIndx _ => 0x61
  | .adcIndy _ => 0x71
  | .sbcImm _ => 0xE9
  | .sbcZp _ => 0xE5
  | .sbcZpx _ => 0xF5
  | .sbcAbs _ => 0xED
  | .sbcAbsx _ => 0xFD
  | .sbcAbsy _ => 0xF9
  | .sbcIndx _ => 0xE1
  | .sbcIndy _ => 0xF1
  | .andImm _ => 0x29
  | .andZp _ => 0x25
  | .andZpx _ => 0x35
  | .andAbs _ => 0x2D
  | .andAbsx _ => 0x3D
  | .andAbsy _ => 0x39
  | .andIndx _ => 0x21
  | .andIndy _ => 0x31
  | .oraImm _ => 0x09
  | .oraZp _ => 0x05
  | .oraZpx _ => 0x15
  | .oraAbs _ => 0x0D
  | .oraAbsx _ => 0x1D
  | .oraAbsy _ => 0x19
  | .oraIndx _ => 0x01
  | .oraIndy _ => 0x11
  | .eorImm _ => 0x49
  | .eorZp _ => 0x45
  | .eorZpx _ => 0x55
  | .eorAbs _ => 0x4D
  | .eorAbsx _ => 0x5D
  | .eorAbsy _ => 0x59
  | .eorIndx _ => 0x41
  | .eorIndy _ => 0x51
  | .cmpImm _ => 0xC9
  | .cmpZp _ => 0xC5
  | .cmpZpx _ => 0xD5
  | .cmpAbs _ => 0xCD
  | .cmpAbsx _ => 0xDD
  | .cmpAbsy _ => 0xD9
  | .cmpIndx _ => 0xC1
  | .cmpIndy _ => 0xD1
  | .cpxImm _ => 0xE0
  | .cpxZp _ => 0xE4
  | .cpxAbs _ => 0xEC
  | .cpyImm _ => 0xC0
  | .cpyZp _ => 0xC4
  | .cpyAbs _ => 0xCC
  | .bitZp _ => 0x24
  | .bitAbs _ => 0x2C
  | .aslAcc => 0x0A
  | .aslZp _ => 0x06
  | .aslZpx _ => 0x16
  | .aslAbs _ => 0x0E
  | .aslAbsx _ => 0x1E
  | .lsrAcc => 0x4A
  | .lsrZp _ => 0x46
  | .lsrZpx _ => 0x56
  | .lsrAbs _ => 0x4E
  | .lsrAbsx _ => 0x5E
  | .rolAcc => 0x2A
  | .rolZp _ => 0x26
  | .rolZpx _ => 0x36
  | .rolAbs _ => 0x2E
  | .rolAbsx _ => 0x3E
  | .rorAcc => 0x6A
  | .rorZp _ => 0x66
  | .rorZpx _ => 0x76
  | .rorAbs _ => 0x6E
  | .rorAbsx _ => 0x7E
  | .incZp _ => 0xE6
  | .incZpx _ => 0xF6
  | .incAbs _ => 0xEE
  | .incAbsx _ => 0xFE
  | .decZp _ => 0xC6
  | .decZpx _ => 0xD6
  | .decAbs _ => 0xCE
  | .decAbsx _ => 0xDE
  | .inx => 0xE8
  | .iny => 0xC8
  | .dex => 0xCA
  | .dey => 0x88
  | .bcc _ => 0x90
  | .bcs _ => 0xB0
  | .beq _ => 0xF0
  | .bne _ => 0xD0
  | .bmi _ => 0x30
  | .bpl _ => 0x10
  | .bvc _ => 0x50
  | .bvs _ => 0x70
  | .jmpAbs _ => 0x4C
  | .jmpInd _ => 0x6C
  | .jsr _ => 0x20
  | .rts => 0x60
  | .pha => 0x48
  | .php => 0x08
  | .pla => 0x68
  | .plp => 0x28
  | .brk => 0x00
  | .rti => 0x40
  | .clc => 0x18
  | .sec => 0x38
  | .cli => 0x58
  | .sei => 0x78
  | .cld => 0xD8
  | .sed => 0xF8
  | .clv => 0xB8
  | .nop => 0xEA
  | .ill op => op

/-- The bytes of an instruction, in address order (R100, R101). -/
def encode (i : Instr) : List Byte := i.opcode :: i.operand.bytes

end Sys2Proof
end

