-- ==== Sys2Proof/Config.lean ====
section
/-! DEFINITION. The parameters of 00_scope.md R5 (their types and the defaults the spec gives), the power-on values the
model names, and the free values of the device environment. -/

namespace Sys2Proof

/-- A device id. The named ones stand in the default window table (20_memory.md R70); another table may name others. -/
inductive Device where
  | gtia
  | pokey
  | pia
  | antic
  | other (id : Nat)
  deriving DecidableEq, Repr

/-- One row of `CHIP_WINDOWS`: a 256-byte page, its device and its mirror period (R69). -/
structure ChipWindow where
  page : Byte
  device : Device
  period : Nat
  deriving DecidableEq, Repr

/-- A device register: the type of `WSYNC_REG` (R73). -/
structure ChipReg where
  device : Device
  index : Byte
  deriving DecidableEq, Repr

/-- What one device write may do to the block, and nothing else (20_memory.md R72): request a stall, raise NMI or IRQ,
and give either bank flag a new value. -/
structure WriteEffect where
  stall : Bool
  nmi : Bool
  irq : Bool
  osBank : Option Bool
  basicBank : Option Bool
  deriving DecidableEq, Repr, Inhabited

/-- The default `CHIP_WINDOWS` (R70). PRESUMED: all but the first row's period is the spec's general knowledge (log 5). -/
def Config.chipWindows : List ChipWindow :=
  [⟨0xD0, .gtia, 32⟩, ⟨0xD2, .pokey, 16⟩, ⟨0xD3, .pia, 4⟩, ⟨0xD4, .antic, 16⟩]

/-- The default `WSYNC_REG` (R73). PRESUMED: the spec's general knowledge (log 5). -/
def Config.wsyncReg : ChipReg := ⟨.antic, 0x0A⟩

/-- What a byte of RAM or of a ROM image that no entry lists reads as. DESIGN CHOICE: the spec leaves `RAM0`, `OS_ROM`
and `BASIC_ROM` parameters; any other contents are listed (log 2). -/
def Config.unlisted : Byte := 0x00

/-- `BANK0`, the OS bank flag at power-on. DESIGN CHOICE (log 3). -/
def Config.osEnabled : Bool := false

/-- `BANK0`, the BASIC bank flag at power-on. DESIGN CHOICE (log 3). -/
def Config.basicEnabled : Bool := false

/-- FREE VALUE: the byte a device reports for a register at its n-th draw (R71, item U2: any value) (log 6). -/
opaque Config.deviceByte : Nat → Device → Byte → Byte

/-- FREE VALUE: what a device write does to the block at the n-th draw (R72, item U3), for every write but the one to
`WSYNC_REG` (log 7, log 8). -/
opaque Config.deviceEffect : Nat → Device → Byte → Byte → WriteEffect

end Sys2Proof
end

