-- ==== Sys2Proof/Machine/State.lean ====
section
/-! DEFINITION. The state of the block (10_state.md R20), the reasons a step may not answer a next state, the state after
reset, and one named update per field. -/

namespace Sys2Proof.Machine

/-- The six status flags, each a boolean; bits 5 and 4 of the packed status have no storage (R25, R32). -/
structure Flags where
  c : Bool
  z : Bool
  i : Bool
  d : Bool
  v : Bool
  n : Bool
  deriving DecidableEq, Repr

/-- Bytes by address, as a list of the bytes that differ from `Config.unlisted`, addresses strictly rising. -/
abbrev Memory := List Host.Cell

/-- What is indeterminate between construction and the first `reset()` or `set_state` that writes it (R45). -/
inductive Item where
  | a | x | y | sp | pc
  | c | z | i | d | v | n
  | halted | cycles | nmiPending | irqPending | stall
  deriving DecidableEq, Repr

/-- Every item of R45. -/
def Item.all : List Item :=
  [.a, .x, .y, .sp, .pc, .c, .z, .i, .d, .v, .n, .halted, .cycles, .nmiPending, .irqPending, .stall]

/-- The state tuple of R20, with the parameters it lists as read-only fields (log 1), the items still indeterminate
(R45, log 9), and the model's own counter of draws from the device environment (log 6). -/
structure State where
  a : Byte
  x : Byte
  y : Byte
  sp : Byte
  pc : Word
  flags : Flags
  halted : Bool
  cycles : Nat
  nmiPending : Bool
  irqPending : Bool
  stall : Bool
  osEnabled : Bool
  basicEnabled : Bool
  ram : Memory
  osRom : Memory
  basicRom : Memory
  chipWindows : List ChipWindow
  wsyncReg : ChipReg
  unset : List Item
  draws : Nat
  deriving DecidableEq, Repr

/-- The faults of the block: none. "The block raises no synchronous exception" (60_exceptions.md R350), and "No
instruction step ever throws" (40_engine.md R140): nothing raises a fault, so the type has no constructor (log 16). -/
inductive Fault where
  deriving DecidableEq, Repr

inductive Refusal where
  /-- Raised by an arm of `exec` whose instruction has no meaning yet (safe). No arm raises it now. -/
  | notModelled (mnemonic : String)
  /-- Raised by `step` on a state some item of which no `reset()` or `set_state` has written: "A model refuses a step
  from an uninitialised state rather than choosing values" (40_engine.md R144; that every item of R45
  counts is log 9; safe). -/
  | indeterminate
  deriving DecidableEq, Repr

/-- What every meaning and every step answers. -/
abbrev Out := Host.Outcome State Fault Refusal

/-- The flags after reset (R46). -/
def Flags.reset : Flags := ⟨false, false, true, false, false, false⟩

/-- The machine right after `reset()` on the power-on parameters the model names (R46, 70_reset_and_hazards.md R400).
PC is `Read16(0xFFFC)`: with the bank flags of log 3 and the RAM of log 2 that read gives 0x0000 (log 4). -/
def State.reset : State where
  a := 0x00
  x := 0x00
  y := 0x00
  sp := 0xFF
  pc := 0x0000
  flags := Flags.reset
  halted := false
  cycles := 0
  nmiPending := false
  irqPending := false
  stall := false
  osEnabled := Config.osEnabled
  basicEnabled := Config.basicEnabled
  ram := []
  osRom := []
  basicRom := []
  chipWindows := Config.chipWindows
  wsyncReg := Config.wsyncReg
  unset := []
  draws := 0

/-- The machine as constructed, before the first `reset()`: every item of R45 is indeterminate, so what its field holds
means nothing; RAM and the bank flags are `RAM0` and `BANK0` (R404). -/
def State.constructed : State := { State.reset with unset := Item.all }

/-! ### One update per field (the laws of each are in Laws/State.lean) -/

def State.setA (s : State) (v : Byte) : State := { s with a := v }
def State.setX (s : State) (v : Byte) : State := { s with x := v }
def State.setY (s : State) (v : Byte) : State := { s with y := v }
def State.setSp (s : State) (v : Byte) : State := { s with sp := v }
def State.setPc (s : State) (v : Word) : State := { s with pc := v }
def State.setFlags (s : State) (f : Flags) : State := { s with flags := f }
def State.setHalted (s : State) (b : Bool) : State := { s with halted := b }
def State.setCycles (s : State) (n : Nat) : State := { s with cycles := n }
def State.setNmi (s : State) (b : Bool) : State := { s with nmiPending := b }
def State.setIrq (s : State) (b : Bool) : State := { s with irqPending := b }
def State.setStall (s : State) (b : Bool) : State := { s with stall := b }
def State.setOsEnabled (s : State) (b : Bool) : State := { s with osEnabled := b }
def State.setBasicEnabled (s : State) (b : Bool) : State := { s with basicEnabled := b }
def State.setRam (s : State) (m : Memory) : State := { s with ram := m }
def State.setOsRom (s : State) (m : Memory) : State := { s with osRom := m }
def State.setBasicRom (s : State) (m : Memory) : State := { s with basicRom := m }
def State.setChipWindows (s : State) (w : List ChipWindow) : State := { s with chipWindows := w }
def State.setUnset (s : State) (u : List Item) : State := { s with unset := u }
def State.setDraws (s : State) (n : Nat) : State := { s with draws := n }

end Sys2Proof.Machine
end

