-- ==== Sys2Proof/Machine/Flags.lean ====
section
/-! DEFINITION. The packed status and every flag computation of the spec: 10_state.md R33, R34, R49; 43_arith_logic.md
R211-R223; 44_shift_incdec.md R250-R255. All arithmetic is on unbounded integers, narrowed at the end (00_scope.md R7). -/

namespace Sys2Proof.Machine

/-- `b2n(f)` as a byte (00_scope.md R6). -/
def flagBit (f : Bool) : Byte := if f then 1 else 0

/-- `pack_status(b)` (R33). -/
def Flags.pack (f : Flags) (b : Bool) : Byte :=
  flagBit f.n <<< 7 ||| flagBit f.v <<< 6 ||| 1#8 <<< 5 ||| flagBit b <<< 4 |||
    flagBit f.d <<< 3 ||| flagBit f.i <<< 2 ||| flagBit f.z <<< 1 ||| flagBit f.c

/-- `unpack_status(v)` (R34): bits 5 and 4 are ignored. -/
def Flags.unpack (v : Byte) : Flags where
  n := v.getLsbD 7
  v := v.getLsbD 6
  d := v.getLsbD 3
  i := v.getLsbD 2
  z := v.getLsbD 1
  c := v.getLsbD 0

/-- `SetNZ(v)` (R49). -/
def Flags.setNZ (f : Flags) (v : Byte) : Flags := { f with z := v == 0, n := v.getLsbD 7 }

/-- A result byte and the flags with it. -/
structure AluResult where
  val : Byte
  flags : Flags
  deriving DecidableEq, Repr

/-- `ADC_bin(m)` (R211). -/
def adcBin (a m : Byte) (f : Flags) : AluResult :=
  let s := a.toNat + m.toNat + f.c.toNat
  let r := BitVec.ofNat 8 s
  ⟨r, { f.setNZ r with c := decide (0xFF < s), v := (a ^^^ r) &&& (m ^^^ r) &&& 0x80 != 0 }⟩

/-- `ADC_dec(m)` (R212): A and C from the decimal sum, Z from the binary sum, N and V from the sum before the high digit
is corrected. -/
def adcDec (a m : Byte) (f : Flags) : AluResult :=
  let cin := f.c.toNat
  let bin := BitVec.ofNat 8 (a.toNat + m.toNat + cin)
  let lo₀ := (a &&& 0x0F).toNat + (m &&& 0x0F).toNat + cin
  let lo := if 0x0A ≤ lo₀ then (lo₀ + 0x06) % 16 + 0x10 else lo₀
  let t₀ := (a &&& 0xF0).toNat + (m &&& 0xF0).toNat + lo
  let ts : Int := (a &&& 0xF0).toInt + (m &&& 0xF0).toInt + lo
  let t := if 0xA0 ≤ t₀ then t₀ + 0x60 else t₀
  ⟨BitVec.ofNat 8 t,
    { f with
      n := t₀.testBit 7
      v := decide (ts < -128) || decide (127 < ts)
      z := bin == 0
      c := decide (0x100 ≤ t) }⟩

/-- `A - m - (1 - b2n(C))`, before it is narrowed (R214, R215). -/
def difference (a m : Byte) (f : Flags) : Int := (a.toNat : Int) - m.toNat - (1 - f.c.toNat)

/-- `SBC_bin(m)` (R214). -/
def sbcBin (a m : Byte) (f : Flags) : AluResult :=
  let s := difference a m f
  let r := BitVec.ofInt 8 s
  ⟨r, { f.setNZ r with c := decide (0 ≤ s), v := (a ^^^ m) &&& (a ^^^ r) &&& 0x80 != 0 }⟩

/-- `SBC_dec(m)` (R215): the flags are those of `SBC_bin`, and only A is corrected. -/
def sbcDec (a m : Byte) (f : Flags) : AluResult :=
  let lo₀ : Int := ((a &&& 0x0F).toNat : Int) - (m &&& 0x0F).toNat + f.c.toNat - 1
  let lo : Int := if lo₀ < 0 then (lo₀ - 0x06) % 16 - 0x10 else lo₀
  let t₀ : Int := ((a &&& 0xF0).toNat : Int) - (m &&& 0xF0).toNat + lo
  let t := if t₀ < 0 then t₀ - 0x60 else t₀
  ⟨BitVec.ofInt 8 t, (sbcBin a m f).flags⟩

/-- ADC's dispatch on D (R210). -/
def adc (a m : Byte) (f : Flags) : AluResult := if f.d then adcDec a m f else adcBin a m f

/-- SBC's dispatch on D (R213). -/
def sbc (a m : Byte) (f : Flags) : AluResult := if f.d then sbcDec a m f else sbcBin a m f

/-- `Compare(r, m)` (R219). -/
def compareFlags (r m : Byte) (f : Flags) : Flags :=
  { f.setNZ (BitVec.ofInt 8 ((r.toNat : Int) - m.toNat)) with c := decide (m.toNat ≤ r.toNat) }

/-- The flags of BIT (R223): Z from `A & m`, N and V from the operand. -/
def bitFlags (a m : Byte) (f : Flags) : Flags :=
  { f with z := a &&& m == 0, n := m.getLsbD 7, v := m.getLsbD 6 }

/-- ASL (R250). -/
def asl (v : Byte) (f : Flags) : AluResult :=
  let r := v <<< 1
  ⟨r, { f.setNZ r with c := v.getLsbD 7 }⟩

/-- LSR (R251). -/
def lsr (v : Byte) (f : Flags) : AluResult :=
  let r := v >>> 1
  ⟨r, { f.setNZ r with c := v.getLsbD 0 }⟩

/-- ROL (R252). -/
def rol (v : Byte) (f : Flags) : AluResult :=
  let r := v <<< 1 ||| flagBit f.c
  ⟨r, { f.setNZ r with c := v.getLsbD 7 }⟩

/-- ROR (R253). -/
def ror (v : Byte) (f : Flags) : AluResult :=
  let r := v >>> 1 ||| flagBit f.c <<< 7
  ⟨r, { f.setNZ r with c := v.getLsbD 0 }⟩

/-- INC, INX, INY (R254, R256, R257): C and V stay. -/
def increment (v : Byte) (f : Flags) : AluResult := ⟨v + 1, f.setNZ (v + 1)⟩

/-- DEC, DEX, DEY (R255, R258, R259): C and V stay. -/
def decrement (v : Byte) (f : Flags) : AluResult := ⟨v - 1, f.setNZ (v - 1)⟩

end Sys2Proof.Machine
end

