-- ==== Sys2Proof/Machine/Ops.lean ====
section
/-! DEFINITION. The operations over memory and registers: RAM cells, the address decoder and the bus (20_memory.md
R60-R79), the two-byte reads (R75, R76), the stack (R88, R89), interrupt entry and return (60_exceptions.md R356), and the
host's operations (40_engine.md R141). -/

namespace Sys2Proof.Machine

/-! ### Memory -/

/-- The byte at an address. -/
def Memory.read : Memory → Nat → Byte
  | [], _ => Config.unlisted
  | (a, v) :: m, k => if k = a then v else Memory.read m k

/-- One entry in front of `m`, unless it says what an unlisted address reads as. -/
def Memory.put (k : Nat) (b : Byte) (m : Memory) : Memory := if b = Config.unlisted then m else (k, b) :: m

/-- The memory with one byte written, in canonical form. -/
def Memory.write : Memory → Nat → Byte → Memory
  | [], k, b => Memory.put k b []
  | (a, v) :: m, k, b =>
    if k < a then Memory.put k b ((a, v) :: m)
    else if k = a then Memory.put k b m
    else (a, v) :: Memory.write m k b

/-- The canonical form: addresses strictly rising, and no entry that says what an unlisted address reads as. -/
def Memory.wf : Memory → Bool
  | [] => true
  | [(_, v)] => v != Config.unlisted
  | (a, v) :: (b, w) :: m => v != Config.unlisted && decide (a < b) && Memory.wf ((b, w) :: m)

/-- Every listed address is below `n`. -/
def Memory.within (n : Nat) (m : Memory) : Bool := m.all fun e => decide (e.1 < n)

/-! ### The address decoder -/

/-- Where an access goes (R63). The offsets are into the ROM images. -/
inductive Region where
  | ram (a : Word)
  | basicRom (off : Nat)
  | osRom (off : Nat)
  | window (dev : Device) (idx : Byte)
  deriving DecidableEq, Repr

/-- `CHIP_WINDOWS(page)` (R63). -/
def State.windowOf (s : State) (page : Byte) : Option ChipWindow := s.chipWindows.find? fun w => w.page == page

/-- The register index of an offset in a window: the offset masked by the mirror period (R69). -/
def windowIndex (w : ChipWindow) (off : Byte) : Byte := off &&& BitVec.ofNat 8 (w.period - 1)

/-- `resolve(addr)` (R63): windows first, then BASIC ROM, then OS ROM, then RAM. -/
def State.region (s : State) (addr : Word) : Region :=
  match s.windowOf (hiByte addr) with
  | some w => .window w.device (windowIndex w (loByte addr))
  | none =>
    if 0xA000 ≤ addr.toNat ∧ addr.toNat ≤ 0xBFFF ∧ s.basicEnabled = true then .basicRom (addr.toNat - 0xA000)
    else if 0xC000 ≤ addr.toNat ∧ s.osEnabled = true then .osRom (addr.toNat - 0xC000)
    else .ram addr

/-! ### Devices -/

/-- An answer and the state after it. -/
structure Res (α : Type) where
  val : α
  st : State

/-- `device_read(dev, idx)` (R71): a draw from the device environment; it changes nothing of the block. -/
def deviceRead (dev : Device) (idx : Byte) (s : State) : Res Byte :=
  ⟨Config.deviceByte s.draws dev idx, s.setDraws (s.draws + 1)⟩

/-- `raise_nmi()` (60_exceptions.md R352). -/
def raiseNmi (s : State) : State := s.setNmi true

/-- `raise_irq()` (60_exceptions.md R353). -/
def raiseIrq (s : State) : State := s.setIrq true

/-- `tick()` (60_exceptions.md R367). -/
def tick (s : State) : State := s.setStall false

/-- `set_bank(os, basic)` (40_engine.md R142). -/
def setBank (os basic : Bool) (s : State) : State := (s.setOsEnabled os).setBasicEnabled basic

/-- The effects a device write may have on the block (R72). -/
def applyEffect (e : WriteEffect) (s : State) : State :=
  let s := s.setStall (s.stall || e.stall)
  let s := s.setNmi (s.nmiPending || e.nmi)
  let s := s.setIrq (s.irqPending || e.irq)
  setBank (e.osBank.getD s.osEnabled) (e.basicBank.getD s.basicEnabled) s

/-- `device_write(dev, idx, v)`: the write to `WSYNC_REG` sets the stall (R73) and nothing else (log 8); every other write
has the effects the device environment gives it (R72, log 7). -/
def deviceWrite (dev : Device) (idx v : Byte) (s : State) : State :=
  if (⟨dev, idx⟩ : ChipReg) = s.wsyncReg then s.setStall true
  else (applyEffect (Config.deviceEffect s.draws dev idx v) s).setDraws (s.draws + 1)

/-! ### The bus -/

/-- `MemRead(addr, 1)` (R61). -/
def busRead (addr : Word) (s : State) : Res Byte :=
  match s.region addr with
  | .ram a => ⟨s.ram.read a.toNat, s⟩
  | .basicRom off => ⟨s.basicRom.read off, s⟩
  | .osRom off => ⟨s.osRom.read off, s⟩
  | .window dev idx => deviceRead dev idx s

/-- `MemWrite(addr, 1, v)` (R62): a write to ROM is discarded, and a write to a window does not reach RAM. -/
def busWrite (addr : Word) (v : Byte) (s : State) : State :=
  match s.region addr with
  | .ram a => s.setRam (s.ram.write a.toNat v)
  | .basicRom _ => s
  | .osRom _ => s
  | .window dev idx => deviceWrite dev idx v s

/-- One byte put into the storage an address shows, ROM images included: how the world outside loads a program (log 13).
A window has no storage. -/
def State.place (s : State) (addr : Word) (v : Byte) : State :=
  match s.region addr with
  | .ram a => s.setRam (s.ram.write a.toNat v)
  | .basicRom off => s.setBasicRom (s.basicRom.write off v)
  | .osRom off => s.setOsRom (s.osRom.write off v)
  | .window _ _ => s

/-- `Read16(a)` (R75): the low byte first, the high byte at the next address mod 65536. -/
def read16 (addr : Word) (s : State) : Res Word :=
  let lo := busRead addr s
  let hi := busRead (addr + 1) lo.st
  ⟨mkWord hi.val lo.val, hi.st⟩

/-- The address of the second byte of `Read16_page`: the next one in the same page (R76). -/
def nextInPage (addr : Word) : Word := (addr &&& 0xFF00) ||| ((addr + 1) &&& 0x00FF)

/-- `Read16_page(a)` (R76). -/
def read16Page (addr : Word) (s : State) : Res Word :=
  let lo := busRead addr s
  let hi := busRead (nextInPage addr) lo.st
  ⟨mkWord hi.val lo.val, hi.st⟩

/-! ### The stack -/

/-- `0x0100 | SP` (10_state.md R23). -/
def stackAddr (sp : Byte) : Word := 0x0100 ||| sp.setWidth 16

/-- `Push(v)` (R88): write, then decrement. -/
def push (v : Byte) (s : State) : State :=
  let s := busWrite (stackAddr s.sp) v s
  s.setSp (s.sp - 1)

/-- `Pull()` (R89): increment, then read. -/
def pull (s : State) : Res Byte :=
  let s := s.setSp (s.sp + 1)
  busRead (stackAddr s.sp) s

/-- Push a 16-bit value, high byte first (45_control_flow.md R291, 60_exceptions.md R356). -/
def pushWord (w : Word) (s : State) : State := push (loByte w) (push (hiByte w) s)

/-- Pull a 16-bit value, low byte first (45_control_flow.md R292). -/
def pullWord (s : State) : Res Word :=
  let lo := pull s
  let hi := pull lo.st
  ⟨mkWord hi.val lo.val, hi.st⟩

/-! ### Cycles -/

/-- Add to the cycle counter (10_state.md R37). -/
def charge (n : Nat) (s : State) : State := s.setCycles (s.cycles + n)

/-- The cost of an executed instruction (70_reset_and_hazards.md R410). -/
def cost (e : Entry) (cross taken : Bool) : Nat :=
  e.cycles
    + (if e.pageCrossPenalty && cross then 1 else 0)
    + (if e.branchPenalty && taken then (if cross then 2 else 1) else 0)

/-! ### A register written with its flags -/

/-- `A <- v; SetNZ(A)` (10_state.md R49). -/
def writeA (v : Byte) (s : State) : State := (s.setA v).setFlags (s.flags.setNZ v)

/-- `X <- v; SetNZ(X)`. -/
def writeX (v : Byte) (s : State) : State := (s.setX v).setFlags (s.flags.setNZ v)

/-- `Y <- v; SetNZ(Y)`. -/
def writeY (v : Byte) (s : State) : State := (s.setY v).setFlags (s.flags.setNZ v)

/-- The result of an arithmetic operation to A and the flags. -/
def writeAlu (r : AluResult) (s : State) : State := (s.setA r.val).setFlags r.flags

/-! ### Interrupts -/

inductive InterruptKind where
  | nmi
  | irq
  deriving DecidableEq, Repr

/-- The vector addresses (60_exceptions.md R350, R356). -/
def InterruptKind.vector : InterruptKind → Word
  | .nmi => 0xFFFA
  | .irq => 0xFFFE

/-- The one entry sequence of NMI, IRQ and BRK: push the return address, high byte first, and the packed status with the
break bit given, set I, and load PC from the vector (60_exceptions.md R356, 46_stack_flags_system.md R314). -/
def takeInterrupt (ret : Word) (brk : Bool) (vector : Word) (s : State) : State :=
  let s := pushWord ret s
  let s := push (s.flags.pack brk) s
  let s := s.setFlags { s.flags with i := true }
  let target := read16 vector s
  target.st.setPc target.val

/-- `enter_interrupt(kind)` (60_exceptions.md R356). -/
def enterInterrupt (kind : InterruptKind) (s : State) : State := takeInterrupt s.pc false kind.vector s

/-- The return of RTI: the status, then the PC, with no adjustment (46_stack_flags_system.md R315). -/
def returnFromInterrupt (s : State) : State :=
  let p := pull s
  let ret := pullWord (p.st.setFlags (Flags.unpack p.val))
  ret.st.setPc ret.val

/-- The interrupt check at the start of a step, with the 7 cycles of an entry (40_engine.md R130, R133;
60_exceptions.md R359). -/
def serviceInterrupts (s : State) : State :=
  if s.nmiPending then charge 7 (enterInterrupt .nmi (s.setNmi false))
  else if s.irqPending && !s.flags.i then charge 7 (enterInterrupt .irq (s.setIrq false))
  else s

/-- The halt transition (47_illegal.md R340): 0 cycles. -/
def halt (s : State) : State := s.setHalted true

/-! ### The host's operations on the state -/

/-- `reset()` (70_reset_and_hazards.md R400): RAM, the bank flags and the parameters stay. -/
def hostReset (s : State) : State :=
  let s : State :=
    { s with
      a := 0
      x := 0
      y := 0
      sp := 0xFF
      flags := Flags.reset
      halted := false
      cycles := 0
      nmiPending := false
      irqPending := false
      stall := false
      unset := [] }
  let target := read16 0xFFFC s
  target.st.setPc target.val

/-- The fields a call of `set_state` names, each with its new value (40_engine.md R143). DESIGN CHOICE (log 17): R143 lists
registers and flags, and says that memory, latches, `halted` and `cycles` are not touched "unless named". Here `halted`,
`cycles`, the latches, memory, as RAM cells, and also `stall`, of which R143 does not speak, may be named. What naming one of
these does is said at `setState`. -/
structure Patch where
  a : Option Byte
  x : Option Byte
  y : Option Byte
  sp : Option Byte
  pc : Option Word
  c : Option Bool
  z : Option Bool
  i : Option Bool
  d : Option Bool
  v : Option Bool
  n : Option Bool
  halted : Option Bool
  cycles : Option Nat
  nmiPending : Option Bool
  irqPending : Option Bool
  stall : Option Bool
  ram : List (Word × Byte)
  deriving DecidableEq, Repr

/-- Whether a call of `set_state` names an item. -/
def Patch.names (p : Patch) : Item → Bool
  | .a => p.a.isSome
  | .x => p.x.isSome
  | .y => p.y.isSome
  | .sp => p.sp.isSome
  | .pc => p.pc.isSome
  | .c => p.c.isSome
  | .z => p.z.isSome
  | .i => p.i.isSome
  | .d => p.d.isSome
  | .v => p.v.isSome
  | .n => p.n.isSome
  | .halted => p.halted.isSome
  | .cycles => p.cycles.isSome
  | .nmiPending => p.nmiPending.isSome
  | .irqPending => p.irqPending.isSome
  | .stall => p.stall.isSome

/-- An item has been given a value (10_state.md R45); the field of one that has not means nothing. -/
def State.isDeterminate (s : State) (k : Item) : Bool := !s.unset.contains k

/-- What `set_state` makes of `halted` or a latch: it may set it, and does not clear one that is determinate and set. -/
def State.namedMayOnlySet (s : State) (k : Item) (old : Bool) (new : Option Bool) : Bool :=
  (s.isDeterminate k && old) || new.getD old

/-- What `set_state` makes of an item of which it gives the first value only. -/
def State.namedFirstValue {α : Type} (s : State) (k : Item) (old : α) (new : Option α) : α :=
  if s.isDeterminate k then old else new.getD old

/-- RAM with the named cells written directly, in their order, whatever ROM stands over them; a cell under a chip window is
never written (20_memory.md R69). -/
def State.namedCells (s : State) : List (Word × Byte) → Memory → Memory
  | [], m => m
  | (addr, v) :: cells, m =>
    s.namedCells cells (if (s.windowOf (hiByte addr)).isSome then m else m.write addr.toNat v)

/-- `set_state(fields)` (40_engine.md R143): it writes the registers, flags and RAM cells it names, and an item it names is
indeterminate no longer (10_state.md R45). Beside these it keeps the rules that say who alone may change an item: it does not
end the halted mode (70_reset_and_hazards.md R402, 10_state.md R36), clear a latch (60_exceptions.md R352, R353), change a
determinate `cycles` (10_state.md R37), or touch a determinate `stall`, which only `tick()` releases (60_exceptions.md R367,
R373, R145) and R143 does not list. What may be named is the model's choice (log 17). -/
def setState (p : Patch) (s : State) : State :=
  { s with
    a := p.a.getD s.a
    x := p.x.getD s.x
    y := p.y.getD s.y
    sp := p.sp.getD s.sp
    pc := p.pc.getD s.pc
    flags :=
      { c := p.c.getD s.flags.c
        z := p.z.getD s.flags.z
        i := p.i.getD s.flags.i
        d := p.d.getD s.flags.d
        v := p.v.getD s.flags.v
        n := p.n.getD s.flags.n }
    halted := s.namedMayOnlySet .halted s.halted p.halted
    cycles := s.namedFirstValue .cycles s.cycles p.cycles
    nmiPending := s.namedMayOnlySet .nmiPending s.nmiPending p.nmiPending
    irqPending := s.namedMayOnlySet .irqPending s.irqPending p.irqPending
    stall := s.namedFirstValue .stall s.stall p.stall
    ram := s.namedCells p.ram s.ram
    unset := s.unset.filter fun k => !p.names k }

end Sys2Proof.Machine
end

