-- ==== Sys2Proof/Machine/Operands.lean ====
section
/-! DEFINITION. Fetching an instruction (40_engine.md R134, R136; 41_addressing.md R150), the addressing-mode resolver
(R151-R164), and the shapes in which an instruction reads and writes its operand (R165), each with its cost (R410). -/

namespace Sys2Proof.Machine

/-! ### Fetch -/

/-- `FetchByte()` (R150). -/
def fetchByte (s : State) : Res Byte :=
  let v := busRead s.pc s
  ⟨v.val, v.st.setPc (v.st.pc + 1)⟩

/-- Fetch and decode one instruction: the opcode, then the operand bytes its mode has, PC past them (R100, R134, R136). -/
def fetchInstr (s : State) : Res Instr :=
  let op := fetchByte s
  match (entry op.val).mode.operandBytes with
  | 0 => ⟨instrOf op.val 0 0, op.st⟩
  | 1 =>
    let b1 := fetchByte op.st
    ⟨instrOf op.val b1.val 0, b1.st⟩
  | _ =>
    let b1 := fetchByte op.st
    let b2 := fetchByte b1.st
    ⟨instrOf op.val b1.val b2.val, b2.st⟩

/-! ### The resolver -/

/-- An effective address or a branch target, and the page-cross flag (R150). -/
structure Resolved where
  addr : Word
  cross : Bool
  deriving DecidableEq, Repr

/-- A zero-page address (R102). -/
def zeroPage (z : Byte) : Word := z.setWidth 16

/-- An address and whether it lies in another page than the address it was computed from (R164). -/
def withCross (base ea : Word) : Resolved := ⟨ea, hiByte base != hiByte ea⟩

/-- `sext_16(b)` (00_scope.md R7). -/
def sext16 (b : Byte) : Word := b.signExtend 16

/-- The effective address of a memory operand (R154-R162). The pointer of the three indirect modes is read through the
bus. -/
def effAddr (m : MemOperand) (s : State) : Res Resolved :=
  match m with
  | .zp z => ⟨⟨zeroPage z, false⟩, s⟩
  | .zpx z => ⟨⟨zeroPage (z + s.x), false⟩, s⟩
  | .zpy z => ⟨⟨zeroPage (z + s.y), false⟩, s⟩
  | .abs a => ⟨⟨a, false⟩, s⟩
  | .absx a => ⟨withCross a (a + s.x.setWidth 16), s⟩
  | .absy a => ⟨withCross a (a + s.y.setWidth 16), s⟩
  | .ind p =>
    let t := read16Page p s
    ⟨⟨t.val, false⟩, t.st⟩
  | .indx z =>
    let t := read16Page (zeroPage (z + s.x)) s
    ⟨⟨t.val, false⟩, t.st⟩
  | .indy z =>
    let t := read16Page (zeroPage z) s
    ⟨withCross t.val (t.val + s.y.setWidth 16), t.st⟩

/-- The branch target, from the PC after the branch (R163). -/
def branchTarget (d : Byte) (s : State) : Resolved := withCross s.pc (s.pc + sext16 d)

/-! ### The shapes. `op` is the row's opcode, for its cost (R137, R138). -/

/-- An instruction with no operand (R151). -/
def runImplied (op : Byte) (f : State → State) (s : State) : Out :=
  .next (charge (cost (entry op) false false) (f s))

/-- An instruction that reads an immediate value (R153). -/
def runImm (op v : Byte) (f : Byte → State → State) (s : State) : Out :=
  .next (charge (cost (entry op) false false) (f v s))

/-- An instruction that reads a byte of memory: resolve, one bus read, the effect (R165). -/
def runRead (op : Byte) (m : MemOperand) (f : Byte → State → State) (s : State) : Out :=
  let r := effAddr m s
  let v := busRead r.val.addr r.st
  .next (charge (cost (entry op) r.val.cross false) (f v.val v.st))

/-- An instruction that writes a register to memory: resolve, one bus write (R165). -/
def runStore (op : Byte) (m : MemOperand) (src : State → Byte) (s : State) : Out :=
  let r := effAddr m s
  .next (charge (cost (entry op) r.val.cross false) (busWrite r.val.addr (src r.st) r.st))

/-- A read-modify-write instruction on A (R152). -/
def runModifyAcc (op : Byte) (f : Byte → Flags → AluResult) (s : State) : Out :=
  .next (charge (cost (entry op) false false) (writeAlu (f s.a s.flags) s))

/-- A read-modify-write instruction on memory: one bus read, then one bus write to the same address
(44_shift_incdec.md R260). -/
def runModify (op : Byte) (m : MemOperand) (f : Byte → Flags → AluResult) (s : State) : Out :=
  let ea := effAddr m s
  let v := busRead ea.val.addr ea.st
  let r := f v.val v.st.flags
  .next (charge (cost (entry op) ea.val.cross false) ((busWrite ea.val.addr r.val v.st).setFlags r.flags))

/-- A conditional branch (45_control_flow.md R280). -/
def runBranch (op d : Byte) (cond : Bool) (s : State) : Out :=
  let t := branchTarget d s
  .next (charge (cost (entry op) t.cross cond) (if cond then s.setPc t.addr else s))

/-- An instruction that transfers control to an effective address (45_control_flow.md R289-R291). -/
def runJump (op : Byte) (m : MemOperand) (f : Word → State → State) (s : State) : Out :=
  let r := effAddr m s
  .next (charge (cost (entry op) r.val.cross false) (f r.val.addr r.st))

end Sys2Proof.Machine
end

