-- ==== Sys2Proof/Machine/ArithLogic.lean ====
section
/-! DEFINITION. 43_arith_logic.md: arithmetic, logic, compare and bit test. One meaning per row of the opcode table. -/

namespace Sys2Proof.Machine

/-- ADC's effect (R210). -/
def addToA (m : Byte) (s : State) : State := writeAlu (adc s.a m s.flags) s

/-- SBC's effect (R213). -/
def subtractFromA (m : Byte) (s : State) : State := writeAlu (sbc s.a m s.flags) s

/-- AND's effect (R216). -/
def andToA (m : Byte) (s : State) : State := writeA (s.a &&& m) s

/-- ORA's effect (R217). -/
def orToA (m : Byte) (s : State) : State := writeA (s.a ||| m) s

/-- EOR's effect (R218). -/
def eorToA (m : Byte) (s : State) : State := writeA (s.a ^^^ m) s

/-- CMP's effect (R219, R220). -/
def compareA (m : Byte) (s : State) : State := s.setFlags (compareFlags s.a m s.flags)

/-- CPX's effect (R219, R221). -/
def compareX (m : Byte) (s : State) : State := s.setFlags (compareFlags s.x m s.flags)

/-- CPY's effect (R219, R222). -/
def compareY (m : Byte) (s : State) : State := s.setFlags (compareFlags s.y m s.flags)

/-- BIT's effect (R223). -/
def bitTest (m : Byte) (s : State) : State := s.setFlags (bitFlags s.a m s.flags)

/-- ADC imm, 0x69 (R210). -/
def execAdcImm (v : Byte) (s : State) : Out := runImm 0x69 v addToA s

/-- ADC zp, 0x65 (R210). -/
def execAdcZp (z : Byte) (s : State) : Out := runRead 0x65 (.zp z) addToA s

/-- ADC zpx, 0x75 (R210). -/
def execAdcZpx (z : Byte) (s : State) : Out := runRead 0x75 (.zpx z) addToA s

/-- ADC abs, 0x6D (R210). -/
def execAdcAbs (a : Word) (s : State) : Out := runRead 0x6D (.abs a) addToA s

/-- ADC absx, 0x7D (R210). -/
def execAdcAbsx (a : Word) (s : State) : Out := runRead 0x7D (.absx a) addToA s

/-- ADC absy, 0x79 (R210). -/
def execAdcAbsy (a : Word) (s : State) : Out := runRead 0x79 (.absy a) addToA s

/-- ADC indx, 0x61 (R210). -/
def execAdcIndx (z : Byte) (s : State) : Out := runRead 0x61 (.indx z) addToA s

/-- ADC indy, 0x71 (R210). -/
def execAdcIndy (z : Byte) (s : State) : Out := runRead 0x71 (.indy z) addToA s

/-- SBC imm, 0xE9 (R213). -/
def execSbcImm (v : Byte) (s : State) : Out := runImm 0xE9 v subtractFromA s

/-- SBC zp, 0xE5 (R213). -/
def execSbcZp (z : Byte) (s : State) : Out := runRead 0xE5 (.zp z) subtractFromA s

/-- SBC zpx, 0xF5 (R213). -/
def execSbcZpx (z : Byte) (s : State) : Out := runRead 0xF5 (.zpx z) subtractFromA s

/-- SBC abs, 0xED (R213). -/
def execSbcAbs (a : Word) (s : State) : Out := runRead 0xED (.abs a) subtractFromA s

/-- SBC absx, 0xFD (R213). -/
def execSbcAbsx (a : Word) (s : State) : Out := runRead 0xFD (.absx a) subtractFromA s

/-- SBC absy, 0xF9 (R213). -/
def execSbcAbsy (a : Word) (s : State) : Out := runRead 0xF9 (.absy a) subtractFromA s

/-- SBC indx, 0xE1 (R213). -/
def execSbcIndx (z : Byte) (s : State) : Out := runRead 0xE1 (.indx z) subtractFromA s

/-- SBC indy, 0xF1 (R213). -/
def execSbcIndy (z : Byte) (s : State) : Out := runRead 0xF1 (.indy z) subtractFromA s

/-- AND imm, 0x29 (R216). -/
def execAndImm (v : Byte) (s : State) : Out := runImm 0x29 v andToA s

/-- AND zp, 0x25 (R216). -/
def execAndZp (z : Byte) (s : State) : Out := runRead 0x25 (.zp z) andToA s

/-- AND zpx, 0x35 (R216). -/
def execAndZpx (z : Byte) (s : State) : Out := runRead 0x35 (.zpx z) andToA s

/-- AND abs, 0x2D (R216). -/
def execAndAbs (a : Word) (s : State) : Out := runRead 0x2D (.abs a) andToA s

/-- AND absx, 0x3D (R216). -/
def execAndAbsx (a : Word) (s : State) : Out := runRead 0x3D (.absx a) andToA s

/-- AND absy, 0x39 (R216). -/
def execAndAbsy (a : Word) (s : State) : Out := runRead 0x39 (.absy a) andToA s

/-- AND indx, 0x21 (R216). -/
def execAndIndx (z : Byte) (s : State) : Out := runRead 0x21 (.indx z) andToA s

/-- AND indy, 0x31 (R216). -/
def execAndIndy (z : Byte) (s : State) : Out := runRead 0x31 (.indy z) andToA s

/-- ORA imm, 0x09 (R217). -/
def execOraImm (v : Byte) (s : State) : Out := runImm 0x09 v orToA s

/-- ORA zp, 0x05 (R217). -/
def execOraZp (z : Byte) (s : State) : Out := runRead 0x05 (.zp z) orToA s

/-- ORA zpx, 0x15 (R217). -/
def execOraZpx (z : Byte) (s : State) : Out := runRead 0x15 (.zpx z) orToA s

/-- ORA abs, 0x0D (R217). -/
def execOraAbs (a : Word) (s : State) : Out := runRead 0x0D (.abs a) orToA s

/-- ORA absx, 0x1D (R217). -/
def execOraAbsx (a : Word) (s : State) : Out := runRead 0x1D (.absx a) orToA s

/-- ORA absy, 0x19 (R217). -/
def execOraAbsy (a : Word) (s : State) : Out := runRead 0x19 (.absy a) orToA s

/-- ORA indx, 0x01 (R217). -/
def execOraIndx (z : Byte) (s : State) : Out := runRead 0x01 (.indx z) orToA s

/-- ORA indy, 0x11 (R217). -/
def execOraIndy (z : Byte) (s : State) : Out := runRead 0x11 (.indy z) orToA s

/-- EOR imm, 0x49 (R218). -/
def execEorImm (v : Byte) (s : State) : Out := runImm 0x49 v eorToA s

/-- EOR zp, 0x45 (R218). -/
def execEorZp (z : Byte) (s : State) : Out := runRead 0x45 (.zp z) eorToA s

/-- EOR zpx, 0x55 (R218). -/
def execEorZpx (z : Byte) (s : State) : Out := runRead 0x55 (.zpx z) eorToA s

/-- EOR abs, 0x4D (R218). -/
def execEorAbs (a : Word) (s : State) : Out := runRead 0x4D (.abs a) eorToA s

/-- EOR absx, 0x5D (R218). -/
def execEorAbsx (a : Word) (s : State) : Out := runRead 0x5D (.absx a) eorToA s

/-- EOR absy, 0x59 (R218). -/
def execEorAbsy (a : Word) (s : State) : Out := runRead 0x59 (.absy a) eorToA s

/-- EOR indx, 0x41 (R218). -/
def execEorIndx (z : Byte) (s : State) : Out := runRead 0x41 (.indx z) eorToA s

/-- EOR indy, 0x51 (R218). -/
def execEorIndy (z : Byte) (s : State) : Out := runRead 0x51 (.indy z) eorToA s

/-- CMP imm, 0xC9 (R220). -/
def execCmpImm (v : Byte) (s : State) : Out := runImm 0xC9 v compareA s

/-- CMP zp, 0xC5 (R220). -/
def execCmpZp (z : Byte) (s : State) : Out := runRead 0xC5 (.zp z) compareA s

/-- CMP zpx, 0xD5 (R220). -/
def execCmpZpx (z : Byte) (s : State) : Out := runRead 0xD5 (.zpx z) compareA s

/-- CMP abs, 0xCD (R220). -/
def execCmpAbs (a : Word) (s : State) : Out := runRead 0xCD (.abs a) compareA s

/-- CMP absx, 0xDD (R220). -/
def execCmpAbsx (a : Word) (s : State) : Out := runRead 0xDD (.absx a) compareA s

/-- CMP absy, 0xD9 (R220). -/
def execCmpAbsy (a : Word) (s : State) : Out := runRead 0xD9 (.absy a) compareA s

/-- CMP indx, 0xC1 (R220). -/
def execCmpIndx (z : Byte) (s : State) : Out := runRead 0xC1 (.indx z) compareA s

/-- CMP indy, 0xD1 (R220). -/
def execCmpIndy (z : Byte) (s : State) : Out := runRead 0xD1 (.indy z) compareA s

/-- CPX imm, 0xE0 (R221). -/
def execCpxImm (v : Byte) (s : State) : Out := runImm 0xE0 v compareX s

/-- CPX zp, 0xE4 (R221). -/
def execCpxZp (z : Byte) (s : State) : Out := runRead 0xE4 (.zp z) compareX s

/-- CPX abs, 0xEC (R221). -/
def execCpxAbs (a : Word) (s : State) : Out := runRead 0xEC (.abs a) compareX s

/-- CPY imm, 0xC0 (R222). -/
def execCpyImm (v : Byte) (s : State) : Out := runImm 0xC0 v compareY s

/-- CPY zp, 0xC4 (R222). -/
def execCpyZp (z : Byte) (s : State) : Out := runRead 0xC4 (.zp z) compareY s

/-- CPY abs, 0xCC (R222). -/
def execCpyAbs (a : Word) (s : State) : Out := runRead 0xCC (.abs a) compareY s

/-- BIT zp, 0x24 (R223). -/
def execBitZp (z : Byte) (s : State) : Out := runRead 0x24 (.zp z) bitTest s

/-- BIT abs, 0x2C (R223). -/
def execBitAbs (a : Word) (s : State) : Out := runRead 0x2C (.abs a) bitTest s

end Sys2Proof.Machine
end

