-- ==== Sys2Proof/Machine/ControlFlow.lean ====
section
/-! DEFINITION. 45_control_flow.md: branches, jumps, calls and returns. PC is already past the instruction. One meaning per row of the opcode table. -/

namespace Sys2Proof.Machine

/-- JMP's effect (R289, R290). -/
def jumpTo (t : Word) (s : State) : State := s.setPc t

/-- JSR's effect (R291): push the address of its last byte, then jump. -/
def callTo (t : Word) (s : State) : State := (pushWord (s.pc - 1) s).setPc t

/-- RTS's effect (R292). -/
def returnFromCall (s : State) : State :=
  let ret := pullWord s
  ret.st.setPc (ret.val + 1)

/-- BCC rel, 0x90 (R281). -/
def execBcc (d : Byte) (s : State) : Out := runBranch 0x90 d (!s.flags.c) s

/-- BCS rel, 0xB0 (R282). -/
def execBcs (d : Byte) (s : State) : Out := runBranch 0xB0 d s.flags.c s

/-- BEQ rel, 0xF0 (R283). -/
def execBeq (d : Byte) (s : State) : Out := runBranch 0xF0 d s.flags.z s

/-- BNE rel, 0xD0 (R284). -/
def execBne (d : Byte) (s : State) : Out := runBranch 0xD0 d (!s.flags.z) s

/-- BMI rel, 0x30 (R285). -/
def execBmi (d : Byte) (s : State) : Out := runBranch 0x30 d s.flags.n s

/-- BPL rel, 0x10 (R286). -/
def execBpl (d : Byte) (s : State) : Out := runBranch 0x10 d (!s.flags.n) s

/-- BVC rel, 0x50 (R287). -/
def execBvc (d : Byte) (s : State) : Out := runBranch 0x50 d (!s.flags.v) s

/-- BVS rel, 0x70 (R288). -/
def execBvs (d : Byte) (s : State) : Out := runBranch 0x70 d s.flags.v s

/-- JMP abs, 0x4C (R289). -/
def execJmpAbs (a : Word) (s : State) : Out := runJump 0x4C (.abs a) jumpTo s

/-- JMP ind, 0x6C (R290). -/
def execJmpInd (p : Word) (s : State) : Out := runJump 0x6C (.ind p) jumpTo s

/-- JSR abs, 0x20 (R291). -/
def execJsr (a : Word) (s : State) : Out := runJump 0x20 (.abs a) callTo s

/-- RTS imp, 0x60 (R292). -/
def execRts (s : State) : Out := runImplied 0x60 returnFromCall s

end Sys2Proof.Machine
end

