-- ==== Sys2Proof/Machine/Illegal.lean ====
section
/-! DEFINITION. 47_illegal.md: the undocumented opcodes. -/

namespace Sys2Proof.Machine

/-- Any of the 105 undocumented opcodes (R340): the halt transition, and nothing else. PC is already past the opcode. -/
def execIll (_op : Byte) (s : State) : Out := .next (halt s)

end Sys2Proof.Machine
end

