-- ==== Sys2Proof/Machine/LoadStore.lean ====
section
/-! DEFINITION. 42_load_store_transfer.md: loads, stores and register transfers. One meaning per row of the opcode table. -/

namespace Sys2Proof.Machine

/-- LDA imm, 0xA9 (R180). -/
def execLdaImm (v : Byte) (s : State) : Out := runImm 0xA9 v writeA s

/-- LDA zp, 0xA5 (R180). -/
def execLdaZp (z : Byte) (s : State) : Out := runRead 0xA5 (.zp z) writeA s

/-- LDA zpx, 0xB5 (R180). -/
def execLdaZpx (z : Byte) (s : State) : Out := runRead 0xB5 (.zpx z) writeA s

/-- LDA abs, 0xAD (R180). -/
def execLdaAbs (a : Word) (s : State) : Out := runRead 0xAD (.abs a) writeA s

/-- LDA absx, 0xBD (R180). -/
def execLdaAbsx (a : Word) (s : State) : Out := runRead 0xBD (.absx a) writeA s

/-- LDA absy, 0xB9 (R180). -/
def execLdaAbsy (a : Word) (s : State) : Out := runRead 0xB9 (.absy a) writeA s

/-- LDA indx, 0xA1 (R180). -/
def execLdaIndx (z : Byte) (s : State) : Out := runRead 0xA1 (.indx z) writeA s

/-- LDA indy, 0xB1 (R180). -/
def execLdaIndy (z : Byte) (s : State) : Out := runRead 0xB1 (.indy z) writeA s

/-- LDX imm, 0xA2 (R181). -/
def execLdxImm (v : Byte) (s : State) : Out := runImm 0xA2 v writeX s

/-- LDX zp, 0xA6 (R181). -/
def execLdxZp (z : Byte) (s : State) : Out := runRead 0xA6 (.zp z) writeX s

/-- LDX zpy, 0xB6 (R181). -/
def execLdxZpy (z : Byte) (s : State) : Out := runRead 0xB6 (.zpy z) writeX s

/-- LDX abs, 0xAE (R181). -/
def execLdxAbs (a : Word) (s : State) : Out := runRead 0xAE (.abs a) writeX s

/-- LDX absy, 0xBE (R181). -/
def execLdxAbsy (a : Word) (s : State) : Out := runRead 0xBE (.absy a) writeX s

/-- LDY imm, 0xA0 (R182). -/
def execLdyImm (v : Byte) (s : State) : Out := runImm 0xA0 v writeY s

/-- LDY zp, 0xA4 (R182). -/
def execLdyZp (z : Byte) (s : State) : Out := runRead 0xA4 (.zp z) writeY s

/-- LDY zpx, 0xB4 (R182). -/
def execLdyZpx (z : Byte) (s : State) : Out := runRead 0xB4 (.zpx z) writeY s

/-- LDY abs, 0xAC (R182). -/
def execLdyAbs (a : Word) (s : State) : Out := runRead 0xAC (.abs a) writeY s

/-- LDY absx, 0xBC (R182). -/
def execLdyAbsx (a : Word) (s : State) : Out := runRead 0xBC (.absx a) writeY s

/-- STA zp, 0x85 (R183). -/
def execStaZp (z : Byte) (s : State) : Out := runStore 0x85 (.zp z) State.a s

/-- STA zpx, 0x95 (R183). -/
def execStaZpx (z : Byte) (s : State) : Out := runStore 0x95 (.zpx z) State.a s

/-- STA abs, 0x8D (R183). -/
def execStaAbs (a : Word) (s : State) : Out := runStore 0x8D (.abs a) State.a s

/-- STA absx, 0x9D (R183). -/
def execStaAbsx (a : Word) (s : State) : Out := runStore 0x9D (.absx a) State.a s

/-- STA absy, 0x99 (R183). -/
def execStaAbsy (a : Word) (s : State) : Out := runStore 0x99 (.absy a) State.a s

/-- STA indx, 0x81 (R183). -/
def execStaIndx (z : Byte) (s : State) : Out := runStore 0x81 (.indx z) State.a s

/-- STA indy, 0x91 (R183). -/
def execStaIndy (z : Byte) (s : State) : Out := runStore 0x91 (.indy z) State.a s

/-- STX zp, 0x86 (R184). -/
def execStxZp (z : Byte) (s : State) : Out := runStore 0x86 (.zp z) State.x s

/-- STX zpy, 0x96 (R184). -/
def execStxZpy (z : Byte) (s : State) : Out := runStore 0x96 (.zpy z) State.x s

/-- STX abs, 0x8E (R184). -/
def execStxAbs (a : Word) (s : State) : Out := runStore 0x8E (.abs a) State.x s

/-- STY zp, 0x84 (R185). -/
def execStyZp (z : Byte) (s : State) : Out := runStore 0x84 (.zp z) State.y s

/-- STY zpx, 0x94 (R185). -/
def execStyZpx (z : Byte) (s : State) : Out := runStore 0x94 (.zpx z) State.y s

/-- STY abs, 0x8C (R185). -/
def execStyAbs (a : Word) (s : State) : Out := runStore 0x8C (.abs a) State.y s

/-- TAX imp, 0xAA (R186). -/
def execTax (s : State) : Out := runImplied 0xAA (fun s => writeX s.a s) s

/-- TAY imp, 0xA8 (R187). -/
def execTay (s : State) : Out := runImplied 0xA8 (fun s => writeY s.a s) s

/-- TXA imp, 0x8A (R188). -/
def execTxa (s : State) : Out := runImplied 0x8A (fun s => writeA s.x s) s

/-- TYA imp, 0x98 (R189). -/
def execTya (s : State) : Out := runImplied 0x98 (fun s => writeA s.y s) s

/-- TSX imp, 0xBA (R190). -/
def execTsx (s : State) : Out := runImplied 0xBA (fun s => writeX s.sp s) s

/-- TXS imp, 0x9A (R191). -/
def execTxs (s : State) : Out := runImplied 0x9A (fun s => s.setSp s.x) s

end Sys2Proof.Machine
end

