-- ==== Sys2Proof/Machine/ShiftIncDec.lean ====
section
/-! DEFINITION. 44_shift_incdec.md: shifts, rotates, increments and decrements. One meaning per row of the opcode table. -/

namespace Sys2Proof.Machine

/-- ASL acc, 0x0A (R250). -/
def execAslAcc (s : State) : Out := runModifyAcc 0x0A asl s

/-- ASL zp, 0x06 (R250). -/
def execAslZp (z : Byte) (s : State) : Out := runModify 0x06 (.zp z) asl s

/-- ASL zpx, 0x16 (R250). -/
def execAslZpx (z : Byte) (s : State) : Out := runModify 0x16 (.zpx z) asl s

/-- ASL abs, 0x0E (R250). -/
def execAslAbs (a : Word) (s : State) : Out := runModify 0x0E (.abs a) asl s

/-- ASL absx, 0x1E (R250). -/
def execAslAbsx (a : Word) (s : State) : Out := runModify 0x1E (.absx a) asl s

/-- LSR acc, 0x4A (R251). -/
def execLsrAcc (s : State) : Out := runModifyAcc 0x4A lsr s

/-- LSR zp, 0x46 (R251). -/
def execLsrZp (z : Byte) (s : State) : Out := runModify 0x46 (.zp z) lsr s

/-- LSR zpx, 0x56 (R251). -/
def execLsrZpx (z : Byte) (s : State) : Out := runModify 0x56 (.zpx z) lsr s

/-- LSR abs, 0x4E (R251). -/
def execLsrAbs (a : Word) (s : State) : Out := runModify 0x4E (.abs a) lsr s

/-- LSR absx, 0x5E (R251). -/
def execLsrAbsx (a : Word) (s : State) : Out := runModify 0x5E (.absx a) lsr s

/-- ROL acc, 0x2A (R252). -/
def execRolAcc (s : State) : Out := runModifyAcc 0x2A rol s

/-- ROL zp, 0x26 (R252). -/
def execRolZp (z : Byte) (s : State) : Out := runModify 0x26 (.zp z) rol s

/-- ROL zpx, 0x36 (R252). -/
def execRolZpx (z : Byte) (s : State) : Out := runModify 0x36 (.zpx z) rol s

/-- ROL abs, 0x2E (R252). -/
def execRolAbs (a : Word) (s : State) : Out := runModify 0x2E (.abs a) rol s

/-- ROL absx, 0x3E (R252). -/
def execRolAbsx (a : Word) (s : State) : Out := runModify 0x3E (.absx a) rol s

/-- ROR acc, 0x6A (R253). -/
def execRorAcc (s : State) : Out := runModifyAcc 0x6A ror s

/-- ROR zp, 0x66 (R253). -/
def execRorZp (z : Byte) (s : State) : Out := runModify 0x66 (.zp z) ror s

/-- ROR zpx, 0x76 (R253). -/
def execRorZpx (z : Byte) (s : State) : Out := runModify 0x76 (.zpx z) ror s

/-- ROR abs, 0x6E (R253). -/
def execRorAbs (a : Word) (s : State) : Out := runModify 0x6E (.abs a) ror s

/-- ROR absx, 0x7E (R253). -/
def execRorAbsx (a : Word) (s : State) : Out := runModify 0x7E (.absx a) ror s

/-- INC zp, 0xE6 (R254). -/
def execIncZp (z : Byte) (s : State) : Out := runModify 0xE6 (.zp z) increment s

/-- INC zpx, 0xF6 (R254). -/
def execIncZpx (z : Byte) (s : State) : Out := runModify 0xF6 (.zpx z) increment s

/-- INC abs, 0xEE (R254). -/
def execIncAbs (a : Word) (s : State) : Out := runModify 0xEE (.abs a) increment s

/-- INC absx, 0xFE (R254). -/
def execIncAbsx (a : Word) (s : State) : Out := runModify 0xFE (.absx a) increment s

/-- DEC zp, 0xC6 (R255). -/
def execDecZp (z : Byte) (s : State) : Out := runModify 0xC6 (.zp z) decrement s

/-- DEC zpx, 0xD6 (R255). -/
def execDecZpx (z : Byte) (s : State) : Out := runModify 0xD6 (.zpx z) decrement s

/-- DEC abs, 0xCE (R255). -/
def execDecAbs (a : Word) (s : State) : Out := runModify 0xCE (.abs a) decrement s

/-- DEC absx, 0xDE (R255). -/
def execDecAbsx (a : Word) (s : State) : Out := runModify 0xDE (.absx a) decrement s

/-- INX imp, 0xE8 (R256). -/
def execInx (s : State) : Out := runImplied 0xE8 (fun s => writeX (s.x + 1) s) s

/-- INY imp, 0xC8 (R257). -/
def execIny (s : State) : Out := runImplied 0xC8 (fun s => writeY (s.y + 1) s) s

/-- DEX imp, 0xCA (R258). -/
def execDex (s : State) : Out := runImplied 0xCA (fun s => writeX (s.x - 1) s) s

/-- DEY imp, 0x88 (R259). -/
def execDey (s : State) : Out := runImplied 0x88 (fun s => writeY (s.y - 1) s) s

end Sys2Proof.Machine
end

