-- ==== Sys2Proof/Machine/StackSystem.lean ====
section
/-! DEFINITION. 46_stack_flags_system.md: stack, status-flag and system instructions. PC is already past the instruction. One meaning per row of the opcode table. -/

namespace Sys2Proof.Machine

/-- PLA's effect (R312). -/
def pullA (s : State) : State :=
  let v := pull s
  writeA v.val v.st

/-- PLP's effect (R313). -/
def pullStatus (s : State) : State :=
  let v := pull s
  v.st.setFlags (Flags.unpack v.val)

/-- BRK's effect (R314): the entry sequence with the break bit, returning to the address of the BRK plus 2. -/
def softwareInterrupt (s : State) : State := takeInterrupt (s.pc + 1) true InterruptKind.irq.vector s

/-- PHA imp, 0x48 (R310). -/
def execPha (s : State) : Out := runImplied 0x48 (fun s => push s.a s) s

/-- PHP imp, 0x08 (R311). -/
def execPhp (s : State) : Out := runImplied 0x08 (fun s => push (s.flags.pack true) s) s

/-- PLA imp, 0x68 (R312). -/
def execPla (s : State) : Out := runImplied 0x68 pullA s

/-- PLP imp, 0x28 (R313). -/
def execPlp (s : State) : Out := runImplied 0x28 pullStatus s

/-- BRK imp, 0x00 (R314). -/
def execBrk (s : State) : Out := runImplied 0x00 softwareInterrupt s

/-- RTI imp, 0x40 (R315). -/
def execRti (s : State) : Out := runImplied 0x40 returnFromInterrupt s

/-- CLC imp, 0x18 (R316). -/
def execClc (s : State) : Out := runImplied 0x18 (fun s => s.setFlags { s.flags with c := false }) s

/-- SEC imp, 0x38 (R317). -/
def execSec (s : State) : Out := runImplied 0x38 (fun s => s.setFlags { s.flags with c := true }) s

/-- CLI imp, 0x58 (R318). -/
def execCli (s : State) : Out := runImplied 0x58 (fun s => s.setFlags { s.flags with i := false }) s

/-- SEI imp, 0x78 (R319). -/
def execSei (s : State) : Out := runImplied 0x78 (fun s => s.setFlags { s.flags with i := true }) s

/-- CLD imp, 0xD8 (R320). -/
def execCld (s : State) : Out := runImplied 0xD8 (fun s => s.setFlags { s.flags with d := false }) s

/-- SED imp, 0xF8 (R321). -/
def execSed (s : State) : Out := runImplied 0xF8 (fun s => s.setFlags { s.flags with d := true }) s

/-- CLV imp, 0xB8 (R322). -/
def execClv (s : State) : Out := runImplied 0xB8 (fun s => s.setFlags { s.flags with v := false }) s

/-- NOP imp, 0xEA (R323). -/
def execNop (s : State) : Out := runImplied 0xEA (fun s => s) s

end Sys2Proof.Machine
end

