-- ==== Sys2Proof/Machine/Step.lean ====
section
/-! DEFINITION. `step()` (40_engine.md R130), and the placing of an instruction where the next step fetches. -/

namespace Sys2Proof.Machine

/-- `step()` (R130): refused while an item is indeterminate (R144); nothing while halted (R131) or stalled (R132); else the
interrupt check, the fetch, and the instruction. The number it returns is what `cycles` grows by (R138, log 10). -/
def step (s : State) : Host.Outcome State Fault Refusal :=
  if s.unset ≠ [] then .refused .indeterminate
  else if s.halted then .next s
  else if s.stall then .next s
  else
    let f := fetchInstr (serviceInterrupts s)
    exec f.val f.st

/-- `s`, made to run an instruction of the opcode table as its very next step (log 13): its three bytes stand in the storage
the addresses from PC on show; a window over one of them is taken away; and nothing stands before the fetch (no halt, no
stall, no indeterminate item, no interrupt due). -/
def State.withFetchWord (s : State) (nbits w : Nat) : State :=
  let pages := [hiByte s.pc, hiByte (s.pc + 1), hiByte (s.pc + 2)]
  let s : State :=
    { s with
      unset := []
      halted := false
      stall := false
      nmiPending := false
      irqPending := s.irqPending && s.flags.i
      chipWindows := s.chipWindows.filter fun c => !pages.contains c.page }
  match tableBytes nbits w with
  | [b0, b1, b2] => ((s.place s.pc b0).place (s.pc + 1) b1).place (s.pc + 2) b2
  | _ => s

end Sys2Proof.Machine
end

