-- ==== Sys2Proof/Machine/HostOps.lean ====
section
/-! DEFINITION. The block's interface: the operations the host calls, one at a time (40_engine.md R141). -/

namespace Sys2Proof.Machine

/-- The operations of R141. `raiseNmi` and `raiseIrq` are also what a device write may do inside a step (20_memory.md
R72). -/
inductive HostOp where
  | step
  | reset
  | tick
  | raiseNmi
  | raiseIrq
  | setBank (os basic : Bool)
  | setState (p : Patch)
  | read (addr : Word)
  | write (addr : Word) (v : Byte)
  deriving DecidableEq, Repr

/-- The state after an operation. -/
def HostOp.run : HostOp → State → Out
  | .step, s => Sys2Proof.Machine.step s
  | .reset, s => .next (hostReset s)
  | .tick, s => .next (Sys2Proof.Machine.tick s)
  | .raiseNmi, s => .next (Sys2Proof.Machine.raiseNmi s)
  | .raiseIrq, s => .next (Sys2Proof.Machine.raiseIrq s)
  | .setBank os basic, s => .next (Sys2Proof.Machine.setBank os basic s)
  | .setState p, s => .next (Sys2Proof.Machine.setState p s)
  | .read addr, s => .next (busRead addr s).st
  | .write addr v, s => .next (busWrite addr v s)

/-- What `step()` returns: the cycles consumed, which are what `cycles` grows by (R138). -/
def stepReturn (s : State) : Option Nat :=
  match step s with
  | .next t => some (t.cycles - s.cycles)
  | _ => none

/-- The number an operation returns to the host, where it returns one. -/
def HostOp.answer : HostOp → State → Option Nat
  | .step, s => stepReturn s
  | .read addr, s => some (busRead addr s).val.toNat
  | _, _ => none

end Sys2Proof.Machine
end

