-- ==== Sys2Proof/Safety.lean ====
section
/-! DEFINITION. The terms claims use: the invariant of the state, when a step runs an instruction, what a byte of memory
reads as without an access, and what a safe run is. -/

namespace Sys2Proof.Machine

/-- A window the parameter `CHIP_WINDOWS` may hold: a page from 0xA0 up (20_memory.md R64), a mirror period that is a power
of two from 1 to 256 (R69). -/
def windowLegal (w : ChipWindow) : Bool :=
  decide (0xA0 ≤ w.page.toNat) && [1, 2, 4, 8, 16, 32, 64, 128, 256].contains w.period

/-- `CHIP_WINDOWS` is a partial map of legal windows: no page twice (00_scope.md R5). -/
def State.windowsLegal (s : State) : Bool :=
  s.chipWindows.all windowLegal && decide (s.chipWindows.map ChipWindow.page).Nodup

/-- The invariant of the state: RAM and the ROM images in canonical form and of the sizes R5 gives, and a legal window
table. -/
structure State.Inv (s : State) : Prop where
  ram_wf : s.ram.wf = true
  ram_within : s.ram.within 65536 = true
  osRom_wf : s.osRom.wf = true
  osRom_within : s.osRom.within 16384 = true
  basicRom_wf : s.basicRom.wf = true
  basicRom_within : s.basicRom.within 8192 = true
  windows : s.windowsLegal = true

/-- A step from here runs an instruction: no item indeterminate, not halted, not stalled (40_engine.md R130, R144). -/
structure State.Ready (s : State) : Prop where
  determinate : s.unset = []
  running : s.halted = false
  unstalled : s.stall = false

/-- No interrupt is entered at this boundary (40_engine.md R133). -/
def State.Undisturbed (s : State) : Prop := s.nmiPending = false ∧ (s.irqPending = false ∨ s.flags.i = true)

/-- The byte an address shows, where that is storage: RAM or a ROM image, not a device register. -/
def State.peek (s : State) (addr : Word) : Option Byte :=
  match s.region addr with
  | .ram a => some (s.ram.read a.toNat)
  | .basicRom off => some (s.basicRom.read off)
  | .osRom off => some (s.osRom.read off)
  | .window _ _ => none

/-- The addresses from `addr` on show these bytes. -/
def State.Shows (s : State) (addr : Word) (bytes : List Byte) : Prop :=
  ∀ k (h : k < bytes.length), s.peek (addr + BitVec.ofNat 16 k) = some bytes[k]

/-- No register of a device stands at the address. -/
def State.IsStorage (s : State) (addr : Word) : Prop := (s.peek addr).isSome = true

/-- A safe run of `n` steps: it ends in a next state, and that state meets the invariant. -/
def State.SafeRun (s : State) (n : Nat) : Prop :=
  ∃ t : State, Host.Core.run Sys2Proof.core n s = .next t ∧ t.Inv

/-! ### What statements about instructions speak of -/

/-- An answer with its state changed. -/
def mapNext (f : State → State) : Out → Out
  | .next t => .next (f t)
  | .fault r => .fault r
  | .refused r => .refused r

/-- A byte an instruction has read, the cycles the instruction costs, and the state after the read. -/
structure Loaded where
  val : Byte
  cycles : Nat
  st : State

/-- `Load(opnd)` (41_addressing.md R165) with the cost of R410; none where an instruction loads nothing. -/
def loaded (i : Instr) (s : State) : Option Loaded :=
  match i.operand with
  | .imm v => some ⟨v, (entry i.opcode).cycles, s⟩
  | .acc => some ⟨s.a, (entry i.opcode).cycles, s⟩
  | .mem m =>
    let ea := effAddr m s
    let v := busRead ea.val.addr ea.st
    some ⟨v.val, cost (entry i.opcode) ea.val.cross false, v.st⟩
  | .imp | .rel _ => none

/-- `Store(opnd, v)` (R165) at state `s`, to the operand as it was resolved at state `s₀`. -/
def stored (i : Instr) (s₀ : State) (v : Byte) (s : State) : State :=
  match i.operand with
  | .acc => { s with a := v }
  | .mem m => busWrite (effAddr m s₀).val.addr v s
  | .imp | .imm _ | .rel _ => s

/-- Z and N of a result byte (10_state.md R49). -/
def nz (f : Flags) (r : Byte) : Flags := { f with z := decide (r = 0), n := decide (0x80 ≤ r.toNat) }

/-- The address of the stack cell a stack pointer names (10_state.md R23). -/
def stackCell (sp : Byte) : Nat := 0x100 + sp.toNat

/-- Both digits of a byte are below ten. -/
def isBcd (b : Byte) : Bool := decide (b.toNat % 16 < 10) && decide (b.toNat / 16 < 10)

/-- The number two decimal digits write. -/
def bcdValue (b : Byte) : Nat := 10 * (b.toNat / 16) + b.toNat % 16

end Sys2Proof.Machine
end

