-- ==== Sys2Proof/Certificates/Slice0/Obligations.lean ====
section
/-! DEFINITION. The statements for the provers. Each docstring names the rules of spec/ it formalises. -/

open Sys2Proof Sys2Proof.Machine

/-! ### Encoding (30_encoding.md) -/

/-- Decoding the bytes of a well-formed instruction, whatever follows them, gives the instruction and what follows
(R100-R105). -/
def Obligations.DecodeOfEncodeGivesInstruction : Prop :=
  ∀ (i : Instr) (rest : List Byte), i.wf = true → decode (encode i ++ rest) = .ok (i, rest)

/-- Whatever decodes is a well-formed instruction, and the bytes are its encoding followed by the rest: no byte of an
encoding is dropped, and no two byte strings are one instruction (R100-R105). -/
def Obligations.EncodeOfDecodedBytesGivesBytes : Prop :=
  ∀ (bytes : List Byte) (i : Instr) (rest : List Byte),
    decode bytes = .ok (i, rest) → i.wf = true ∧ encode i ++ rest = bytes

/-- A few words written out from the encodings of the spec: five of the examples of R108 (LDA immediate, LDA absolute,X, JMP
indirect, LDA (zp),Y, and BNE with the displacement 0xF8), and JSR, BRK, ROR A, STX zp,Y, an undocumented opcode, and a
truncated LDA absolute. The other modes' words are not here: Sys2Proof/Tests/Slice0.lean has one for every constructor. -/
def Obligations.SampleWordsDecode : Prop :=
  decode [0xA9, 0x10] = .ok (.ldaImm 0x10, []) ∧
  decode [0xBD, 0x34, 0x12] = .ok (.ldaAbsx 0x1234, []) ∧
  decode [0x6C, 0x34, 0x12] = .ok (.jmpInd 0x1234, []) ∧
  decode [0xB1, 0x10] = .ok (.ldaIndy 0x10, []) ∧
  decode [0xD0, 0xF8] = .ok (.bne 0xF8, []) ∧
  decode [0x20, 0x00, 0x07] = .ok (.jsr 0x0700, []) ∧
  decode [0x00, 0xAA] = .ok (.brk, [0xAA]) ∧
  decode [0x6A] = .ok (.rorAcc, []) ∧
  decode [0x96, 0xFE] = .ok (.stxZpy 0xFE, []) ∧
  decode [0x02] = .ok (.ill 0x02, []) ∧
  decode [0xAD, 0x34] = .error (.truncated 0xAD)

/-- Every one of the 256 opcode values decodes, to an instruction of that opcode, and to the halting one exactly for the
105 undocumented values (R105). -/
def Obligations.EveryOpcodeValueDecodes : Prop :=
  ∀ (op b1 b2 : Byte) (rest : List Byte), ∃ (i : Instr) (rest' : List Byte),
    decode (op :: b1 :: b2 :: rest) = .ok (i, rest') ∧ i.opcode = op ∧ (i.mnemonic = .ILL ↔ op ∈
      ([0x02, 0x03, 0x04, 0x07, 0x0B, 0x0C, 0x0F, 0x12, 0x13, 0x14, 0x17, 0x1A, 0x1B, 0x1C, 0x1F, 0x22, 0x23, 0x27] ++
      [0x2B, 0x2F, 0x32, 0x33, 0x34, 0x37, 0x3A, 0x3B, 0x3C, 0x3F, 0x42, 0x43, 0x44, 0x47, 0x4B, 0x4F, 0x52, 0x53] ++
      [0x54, 0x57, 0x5A, 0x5B, 0x5C, 0x5F, 0x62, 0x63, 0x64, 0x67, 0x6B, 0x6F, 0x72, 0x73, 0x74, 0x77, 0x7A, 0x7B] ++
      [0x7C, 0x7F, 0x80, 0x82, 0x83, 0x87, 0x89, 0x8B, 0x8F, 0x92, 0x93, 0x97, 0x9B, 0x9C, 0x9E, 0x9F, 0xA3, 0xA7] ++
      [0xAB, 0xAF, 0xB2, 0xB3, 0xB7, 0xBB, 0xBF, 0xC2, 0xC3, 0xC7, 0xCB, 0xCF, 0xD2, 0xD3, 0xD4, 0xD7, 0xDA, 0xDB] ++
      [0xDC, 0xDF, 0xE2, 0xE3, 0xE7, 0xEB, 0xEF, 0xF2, 0xF3, 0xF4, 0xF7, 0xFA, 0xFB, 0xFC, 0xFF] : List Byte))

/-- The cost of a row (R410): the base cycles of every row follow from what the instruction does and its mode; the page-cross
penalty is for exactly the 23 read rows in the modes absx, absy and indy, the branch penalty for exactly the eight relative
rows; a page crossing adds 1 to a row of the first kind, a taken branch 1, and 2 across a page. -/
def Obligations.CostFollowsModeAndPenalties : Prop :=
  ∀ op : Byte,
    (let e := entry op
     let stores := [Mnemonic.STA, .STX, .STY].contains e.mnemonic
     let modifies := [Mnemonic.ASL, .LSR, .ROL, .ROR, .INC, .DEC].contains e.mnemonic
     (e.cycles = match e.mode with
       | .imm | .acc | .rel => 2
       | .zp => if modifies then 5 else 3
       | .zpx | .zpy => if modifies then 6 else 4
       | .abs => if e.mnemonic = .JMP then 3 else if modifies ∨ e.mnemonic = .JSR then 6 else 4
       | .absx | .absy => if modifies then 7 else if stores then 5 else 4
       | .ind => 5
       | .indx => 6
       | .indy => if stores then 6 else 5
       | .imp =>
         if e.mnemonic = .ILL then 0
         else if e.mnemonic = .BRK then 7
         else if e.mnemonic = .RTI ∨ e.mnemonic = .RTS then 6
         else if e.mnemonic = .PLA ∨ e.mnemonic = .PLP then 4
         else if e.mnemonic = .PHA ∨ e.mnemonic = .PHP then 3
         else 2) ∧
     (e.pageCrossPenalty = true ↔
       (e.mnemonic ∈ [.ADC, .AND, .CMP, .EOR, .LDA, .ORA, .SBC] ∧ e.mode ∈ [.absx, .absy, .indy]) ∨
       (e.mnemonic = .LDX ∧ e.mode = .absy) ∨ (e.mnemonic = .LDY ∧ e.mode = .absx)) ∧
     (e.branchPenalty = true ↔ e.mode = .rel) ∧
     (e.pageCrossPenalty = true → cost e false false = e.cycles ∧ cost e true false = e.cycles + 1) ∧
     (e.branchPenalty = true → (∀ cross, cost e cross false = 2) ∧ cost e false true = 3 ∧ cost e true true = 4) ∧
     (e.pageCrossPenalty = false → e.branchPenalty = false → ∀ cross taken, cost e cross taken = e.cycles))

/-! ### The step (40_engine.md) -/

/-- A step runs the decoded instruction: where the bytes shown from PC on are those of an instruction, the step is that
instruction's `exec` with PC moved past them (R134, R136, R137). -/
def Obligations.StepRunsDecodedInstruction : Prop :=
  ∀ (s : State) (bytes : List Byte) (i : Instr), s.Ready → s.Undisturbed → s.Shows s.pc bytes →
    decode bytes = .ok (i, []) → step s = exec i (s.setPc (s.pc + BitVec.ofNat 16 bytes.length))

/-- A halted step changes nothing and returns 0, whatever interrupt is pending (R131). -/
def Obligations.HaltedStepChangesNothing : Prop :=
  ∀ s : State, s.unset = [] → s.halted = true → step s = .next s ∧ stepReturn s = some 0

/-- A stalled step changes nothing and returns 0; a latch raised meanwhile stays pending; and the first step after the tick
checks it: it takes the NMI, or the IRQ when I is clear (R132). No operation ends the stalled mode but `tick()` and `reset()`
(R145, 60_exceptions.md R367, R373, 70_reset_and_hazards.md R402); that a `set_state` which names `stall` does not end it
either is the model's choice, those rules standing above R143 (log 17). -/
def Obligations.StalledStepWaitsForTick : Prop :=
  ∀ s : State, s.unset = [] → s.halted = false → s.stall = true →
    step s = .next s ∧ stepReturn s = some 0 ∧
    step (raiseNmi s) = .next (raiseNmi s) ∧ (raiseNmi s).nmiPending = true ∧
    step (raiseIrq s) = .next (raiseIrq s) ∧ (raiseIrq s).irqPending = true ∧
    (∀ (op : HostOp) (t : State), op.run s = .next t → t.stall = false → op = .tick ∨ op = .reset) ∧
    (s.windowsLegal = true →
      step (tick (raiseNmi s)) = step (charge 7 (enterInterrupt .nmi ((tick s).setNmi false))) ∧
      (s.nmiPending = false → s.flags.i = false →
        step (tick (raiseIrq s)) = step (charge 7 (enterInterrupt .irq ((tick s).setIrq false)))))

/-- A step is refused exactly while an item is indeterminate; `reset()` gives every item a value, and so does a
`set_state` that names every item still without one. R144 speaks of registers and flags. The model's choices: `halted`,
`cycles`, the latches and `stall`, which 10_state.md R45 and 70_reset_and_hazards.md R404 call indeterminate too, are among
the items that refuse a step (log 9), and a `set_state` may name them (log 17). -/
def Obligations.IndeterminateStepRefused : Prop :=
  (∀ s : State, step s = .refused .indeterminate ↔ s.unset ≠ []) ∧
  (∀ s : State, (hostReset s).unset = []) ∧
  (∀ (p : Patch) (s : State), (setState p s).unset = [] ↔ ∀ k ∈ s.unset, p.names k = true)

/-- Every instruction completes, and so does every step of a state without an indeterminate item: a defined next state,
for every opcode, address and register value (R140). -/
def Obligations.EveryInstructionAndStepCompletes : Prop :=
  (∀ (i : Instr) (s : State), ∃ t : State, exec i s = .next t) ∧
  (∀ s : State, s.unset = [] → ∃ t : State, step s = .next t)

/-- A step that is neither halted nor stalled ends halted exactly when it fetched an undocumented opcode; and no operation
ends the halted mode but `reset()` (10_state.md R36, 47_illegal.md R340, 70_reset_and_hazards.md R402, R145). Where `halted`
is still indeterminate its field says nothing, and a `set_state` that names it gives it its first value (log 9). That a
`set_state` which names it later does not end the mode is those rules standing above R143, the model's choice (log 17). Outside a
step, a `set_state` that names `halted` with true enters the mode too (log 17). -/
def Obligations.HaltedModeIsEnteredByUndocumentedLeftByReset : Prop :=
  (∀ s t : State, s.Ready → step s = .next t →
    (t.halted = true ↔ ∃ op : Byte, (fetchInstr (serviceInterrupts s)).val = .ill op)) ∧
  (∀ (op : HostOp) (s t : State), s.halted = true → op.run s = .next t → t.halted = false →
    op = .reset ∨ (.halted ∈ s.unset ∧ ∃ p : Patch, op = .setState p ∧ p.halted = some false))

/-- `tick()`, `raise_nmi()` and `raise_irq()` write their one latch (60_exceptions.md R352, R353, R367); `set_state` writes the
registers and flags it names and leaves the rest, the bank flags and the parameters among it (R143). The model's choices
(log 17): `set_state` may also name `halted`, `cycles`, the latches and memory, as R143's "unless named" is read, and
`stall`, of which R143 does not speak. Of memory it writes the RAM cells it names, the last one where it names a cell twice,
whatever ROM stands over them, but none under a chip window (20_memory.md R69), and no other. Once they are determinate it does not clear `halted` or a latch
(70_reset_and_hazards.md R402, 10_state.md R36, 60_exceptions.md R352, R353), and does not change `cycles` (10_state.md R37)
or `stall` (60_exceptions.md R367, R373). -/
def Obligations.HostOperationsWriteWhatTheyName : Prop :=
  ∀ s : State,
    tick s = { s with stall := false } ∧
    raiseNmi s = { s with nmiPending := true } ∧
    raiseIrq s = { s with irqPending := true } ∧
    (∀ p : Patch, setState p s = { s with
      a := if h : p.a.isSome then p.a.get h else s.a
      x := if h : p.x.isSome then p.x.get h else s.x
      y := if h : p.y.isSome then p.y.get h else s.y
      sp := if h : p.sp.isSome then p.sp.get h else s.sp
      pc := if h : p.pc.isSome then p.pc.get h else s.pc
      flags :=
        { c := if h : p.c.isSome then p.c.get h else s.flags.c
          z := if h : p.z.isSome then p.z.get h else s.flags.z
          i := if h : p.i.isSome then p.i.get h else s.flags.i
          d := if h : p.d.isSome then p.d.get h else s.flags.d
          v := if h : p.v.isSome then p.v.get h else s.flags.v
          n := if h : p.n.isSome then p.n.get h else s.flags.n }
      halted :=
        if s.halted = true ∧ .halted ∉ s.unset then true
        else if h : p.halted.isSome then p.halted.get h else s.halted
      cycles :=
        if .cycles ∉ s.unset then s.cycles
        else if h : p.cycles.isSome then p.cycles.get h else s.cycles
      nmiPending :=
        if s.nmiPending = true ∧ .nmiPending ∉ s.unset then true
        else if h : p.nmiPending.isSome then p.nmiPending.get h else s.nmiPending
      irqPending :=
        if s.irqPending = true ∧ .irqPending ∉ s.unset then true
        else if h : p.irqPending.isSome then p.irqPending.get h else s.irqPending
      stall :=
        if .stall ∉ s.unset then s.stall
        else if h : p.stall.isSome then p.stall.get h else s.stall
      ram := (setState p s).ram
      unset := (setState p s).unset }) ∧
    (s.Inv → ∀ (p : Patch) (addr : Word),
      ((∀ e ∈ p.ram, e.1 ≠ addr) ∨ (s.windowOf (hiByte addr)).isSome = true →
        (setState p s).ram.read addr.toNat = s.ram.read addr.toNat) ∧
      ∀ (v : Byte) (front back : List (Word × Byte)), p.ram = front ++ (addr, v) :: back → (∀ e ∈ back, e.1 ≠ addr) →
        s.windowOf (hiByte addr) = none → (setState p s).ram.read addr.toNat = v)

/-- The cycle count affects nothing else: a step of a state with `k` cycles more is the same step, with `k` cycles more at
its end (70_reset_and_hazards.md R409). The two steps share the device environment (log 6). -/
def Obligations.CycleCountAffectsNothingElse : Prop :=
  ∀ (s : State) (k : Nat),
    step (s.setCycles (s.cycles + k)) = mapNext (fun t => t.setCycles (t.cycles + k)) (step s)

/-! ### Invariants -/

/-- The state after reset meets the invariant, and a step from it runs an instruction. The values the model itself chose
for RAM, the ROM images and the bank flags are logs 2 and 3. -/
def Obligations.ResetMeetsInvariant : Prop := State.reset.Inv ∧ State.reset.Ready

/-- Every step keeps the invariant (memory in canonical form and of its size, a legal window table), and so does every
other operation of the host. -/
def Obligations.StepAndHostOperationsKeepInvariant : Prop :=
  (∀ s t : State, s.Inv → step s = .next t → t.Inv) ∧
  (∀ (op : HostOp) (s t : State), s.Inv → op.run s = .next t → t.Inv)

/-- A run of any length from a state that meets the invariant and has no indeterminate item ends in a next state, which
meets the invariant: no run is stopped by a fault or a refusal (R140, 60_exceptions.md R350). -/
def Obligations.EveryRunIsSafe : Prop :=
  ∀ (s : State) (n : Nat), s.Inv → s.unset = [] → s.SafeRun n

/-- No operation writes the ROM images, the window table (10_state.md R43) or the WSYNC parameter. R43 does not name the
last: 00_scope.md R5 makes WSYNC_REG a parameter, and that it is a field of State no operation writes is the model's choice
(log 1). -/
def Obligations.OperationsKeepParameters : Prop :=
  ∀ (op : HostOp) (s t : State), op.run s = .next t →
    t.osRom = s.osRom ∧ t.basicRom = s.basicRom ∧ t.chipWindows = s.chipWindows ∧ t.wsyncReg = s.wsyncReg

/-- The RAM cells under a chip window are never written, by any operation (20_memory.md R69, 10_state.md R42). A
`set_state` that names such a cell leaves it too, R69 standing above R143, the model's choice (log 17). -/
def Obligations.RamUnderWindowIsNeverWritten : Prop :=
  ∀ (op : HostOp) (s t : State) (addr : Word), s.Inv → op.run s = .next t → (s.windowOf (hiByte addr)).isSome = true →
    t.ram.read addr.toNat = s.ram.read addr.toNat

/-! ### The address decoder and the bus (20_memory.md) -/

/-- The order in which an address resolves: windows, BASIC ROM, OS ROM, RAM (R63). -/
def Obligations.RegionPriority : Prop :=
  ∀ (s : State) (addr : Word),
    (∀ w : ChipWindow, s.windowOf (hiByte addr) = some w →
      s.region addr = .window w.device (loByte addr &&& BitVec.ofNat 8 (w.period - 1))) ∧
    (s.windowOf (hiByte addr) = none → 0xA000 ≤ addr.toNat → addr.toNat ≤ 0xBFFF → s.basicEnabled = true →
      s.region addr = .basicRom (addr.toNat - 0xA000)) ∧
    (s.windowOf (hiByte addr) = none → 0xC000 ≤ addr.toNat → s.osEnabled = true →
      s.region addr = .osRom (addr.toNat - 0xC000)) ∧
    (s.windowOf (hiByte addr) = none → (addr.toNat < 0xA000 ∨
        (addr.toNat < 0xC000 ∧ s.basicEnabled = false) ∨ (0xC000 ≤ addr.toNat ∧ s.osEnabled = false)) →
      s.region addr = .ram addr)

/-- Every address below 0xA000 is RAM, the zero page and the stack page among them (R64). -/
def Obligations.BelowA000IsRam : Prop :=
  ∀ (s : State) (addr : Word), s.windowsLegal = true → addr.toNat < 0xA000 → s.region addr = .ram addr

/-- A RAM cell reads back what was last written to it, the write changes no other cell and nothing else, and the read
changes nothing (R61, R62, R82). -/
def Obligations.RamReadsBackLastWrite : Prop :=
  ∀ (s : State) (addr : Word) (v : Byte), s.Inv → s.region addr = .ram addr →
    busRead addr (busWrite addr v s) = ⟨v, busWrite addr v s⟩ ∧
    busWrite addr v s = { s with ram := (busWrite addr v s).ram } ∧
    ∀ b : Nat, b ≠ addr.toNat → (busWrite addr v s).ram.read b = s.ram.read b

/-- A write to an address that shows ROM changes nothing; and while the bank is off the address reads and writes the RAM
cell, which keeps its value through writes made while the ROM was on (R67). -/
def Obligations.RomWriteDiscardedRamPersists : Prop :=
  (∀ (s : State) (addr : Word) (v : Byte) (off : Nat),
    s.region addr = .osRom off ∨ s.region addr = .basicRom off → busWrite addr v s = s) ∧
  (∀ (s : State) (addr : Word) (v w : Byte), s.Inv → s.windowOf (hiByte addr) = none → 0xA000 ≤ addr.toNat →
    let off := busWrite addr v (setBank false false s)
    let on := busWrite addr w (setBank true true off)
    on = setBank true true off ∧ (busRead addr off).val = v ∧ (busRead addr (setBank false false on)).val = v)

/-- In a window the register index is the offset modulo the mirror period, so that offsets that agree modulo the period
reach one register, whatever the bank flags (R69). -/
def Obligations.WindowMirrorsModuloPeriod : Prop :=
  ∀ (s : State) (addr : Word) (w : ChipWindow), s.windowsLegal = true → s.windowOf (hiByte addr) = some w →
    ∀ os basic : Bool, (setBank os basic s).region addr =
      .window w.device (BitVec.ofNat 8 ((loByte addr).toNat % w.period))

/-- A write to the WSYNC register sets the stall, and a read of it does not; with the default table and register the
addresses are 0xD40A, 0xD41A, ..., 0xD4FA (R73). That the write does nothing else is the model's reading (log 8). -/
def Obligations.WsyncWriteSetsStall : Prop :=
  (∀ (s : State) (addr : Word) (v : Byte), s.region addr = .window s.wsyncReg.device s.wsyncReg.index →
    busWrite addr v s = { s with stall := true } ∧ (busRead addr s).st.stall = s.stall) ∧
  (∀ (s : State) (k : Nat) (v : Byte), k < 16 → s.chipWindows = Config.chipWindows → s.wsyncReg = Config.wsyncReg →
    busWrite (BitVec.ofNat 16 (0xD40A + 16 * k)) v s = { s with stall := true })

/-- All a device write may do to the block: set the stall, raise either latch, change either bank flag (R72). The counter
of draws is the model's own (log 6). -/
def Obligations.DeviceWriteEffectsAreLimited : Prop :=
  ∀ (s : State) (addr : Word) (v : Byte) (dev : Device) (idx : Byte), s.region addr = .window dev idx →
    ∃ (st nmi irq os basic : Bool) (n : Nat), busWrite addr v s =
      { s with
        stall := s.stall || st
        nmiPending := s.nmiPending || nmi
        irqPending := s.irqPending || irq
        osEnabled := os
        basicEnabled := basic
        draws := n }

/-- `set_bank` writes the two bank flags and nothing else, and the next access uses them: with a bank on, an address of its
range that no window covers reads the ROM image, and with it off the RAM cell (40_engine.md R142, R65, R66). -/
def Obligations.BankSwitchTakesEffectAtOnce : Prop :=
  ∀ (s : State) (os basic : Bool),
    setBank os basic s = { s with osEnabled := os, basicEnabled := basic } ∧
    ∀ addr : Word, s.windowOf (hiByte addr) = none →
      (0xA000 ≤ addr.toNat → addr.toNat ≤ 0xBFFF → (busRead addr (setBank os basic s)).val =
        if basic then s.basicRom.read (addr.toNat - 0xA000) else s.ram.read addr.toNat) ∧
      (0xC000 ≤ addr.toNat → (busRead addr (setBank os basic s)).val =
        if os then s.osRom.read (addr.toNat - 0xC000) else s.ram.read addr.toNat)

/-- `Read16` reads its high byte at the next address; `Read16_page` differs only when the low byte of the address is 0xFF,
and then reads its high byte at the start of the same page. The low byte is read first (R75, R76). -/
def Obligations.PageReadWrapsOnlyAtPageEnd : Prop :=
  ∀ (s : State) (a : Word),
    (let lo := busRead a s
     let hi := busRead (BitVec.ofNat 16 ((a.toNat + 1) % 65536)) lo.st
     read16 a s = ⟨hi.val ++ lo.val, hi.st⟩) ∧
    (a.toNat % 256 ≠ 255 → read16Page a s = read16 a s) ∧
    (a.toNat % 256 = 255 →
      (let lo := busRead a s
       let hi := busRead (BitVec.ofNat 16 (a.toNat - 255)) lo.st
       read16Page a s = ⟨hi.val ++ lo.val, hi.st⟩))

/-- Push writes at the stack cell and then decrements SP; pull increments SP and then reads the cell; both wrap in the page
and reach RAM (R88, R89). -/
def Obligations.PushAndPullUseStackPage : Prop :=
  ∀ (s : State) (v : Byte), s.Inv →
    push v s = { s with ram := s.ram.write (0x100 + s.sp.toNat) v, sp := s.sp - 1 } ∧
    pull s = ⟨s.ram.read (0x100 + (s.sp.toNat + 1) % 256), { s with sp := s.sp + 1 }⟩ ∧
    (pull (push v s)).val = v ∧ (pull (push v s)).st.sp = s.sp

/-! ### The addressing modes (41_addressing.md) -/

/-- The modes without a pointer. Zero page: the index is added within the byte, no crossing. Absolute indexed: the sum wraps
at 65536, and the crossing is reported exactly when the page of the sum is not the page of the base. Nothing is read
(R154-R159, R164). -/
def Obligations.DirectModesComputeAddressAndCross : Prop :=
  ∀ (s : State) (z : Byte) (a : Word),
    effAddr (.zp z) s = ⟨⟨BitVec.ofNat 16 z.toNat, false⟩, s⟩ ∧
    effAddr (.zpx z) s = ⟨⟨BitVec.ofNat 16 ((z.toNat + s.x.toNat) % 256), false⟩, s⟩ ∧
    effAddr (.zpy z) s = ⟨⟨BitVec.ofNat 16 ((z.toNat + s.y.toNat) % 256), false⟩, s⟩ ∧
    effAddr (.abs a) s = ⟨⟨a, false⟩, s⟩ ∧
    effAddr (.absx a) s = ⟨⟨BitVec.ofNat 16 (a.toNat + s.x.toNat),
      decide ((a.toNat + s.x.toNat) % 65536 / 256 ≠ a.toNat / 256)⟩, s⟩ ∧
    effAddr (.absy a) s = ⟨⟨BitVec.ofNat 16 (a.toNat + s.y.toNat),
      decide ((a.toNat + s.y.toNat) % 65536 / 256 ≠ a.toNat / 256)⟩, s⟩

/-- The two zero-page pointer modes: the pointer's bytes are RAM cells of the zero page, the second one wrapping in it; Y is
added after the indirection, with carry (R161, R162). -/
def Obligations.ZeroPagePointersWrapInPage : Prop :=
  ∀ (s : State) (z : Byte), s.windowsLegal = true →
    effAddr (.indx z) s = ⟨⟨s.ram.read ((z.toNat + s.x.toNat + 1) % 256) ++ s.ram.read ((z.toNat + s.x.toNat) % 256),
      false⟩, s⟩ ∧
    (let base : Word := s.ram.read ((z.toNat + 1) % 256) ++ s.ram.read z.toNat
     effAddr (.indy z) s = ⟨⟨BitVec.ofNat 16 (base.toNat + s.y.toNat),
      decide ((base.toNat + s.y.toNat) % 65536 / 256 ≠ base.toNat / 256)⟩, s⟩)

/-- The indirect jump's target: its low byte from the pointer, its high byte from the next address, but from the start of the
pointer's own page when the pointer's low byte is 0xFF; no crossing (R160). -/
def Obligations.IndirectJumpPageBug : Prop :=
  ∀ (s : State) (p : Word),
    (let lo := busRead p s
     let hi := busRead (BitVec.ofNat 16 (if p.toNat % 256 = 255 then p.toNat - 255 else p.toNat + 1)) lo.st
     effAddr (.ind p) s = ⟨⟨hi.val ++ lo.val, false⟩, hi.st⟩)

/-- The branch target: the signed displacement added to the PC after the branch, mod 65536, with a crossing when the page
changes (R163). -/
def Obligations.BranchTargetIsSignedOffset : Prop :=
  ∀ (s : State) (d : Byte),
    ((branchTarget d s).addr.toNat : Int) = ((s.pc.toNat : Int) + d.toInt) % 65536 ∧
    ((branchTarget d s).cross = true ↔ (branchTarget d s).addr.toNat / 256 ≠ s.pc.toNat / 256)

/-- Reading an operand changes nothing of the block; only the model's own counter of draws may move (R61, R71). -/
def Obligations.LoadingChangesNothing : Prop :=
  ∀ (i : Instr) (s : State) (l : Loaded), loaded i s = some l → ∃ n : Nat, l.st = { s with draws := n }

/-! ### Loads, stores and transfers (42_load_store_transfer.md) -/

/-- LDA, LDX and LDY, in every mode: the operand goes to the register, Z and N are its, and nothing else changes (R180,
R181, R182). -/
def Obligations.LoadsWriteRegisterAndNZ : Prop :=
  ∀ (i : Instr) (s : State),
    (i.mnemonic = .LDA → ∃ l, loaded i s = some l ∧ exec i s =
      .next { l.st with a := l.val, flags := nz s.flags l.val, cycles := s.cycles + l.cycles }) ∧
    (i.mnemonic = .LDX → ∃ l, loaded i s = some l ∧ exec i s =
      .next { l.st with x := l.val, flags := nz s.flags l.val, cycles := s.cycles + l.cycles }) ∧
    (i.mnemonic = .LDY → ∃ l, loaded i s = some l ∧ exec i s =
      .next { l.st with y := l.val, flags := nz s.flags l.val, cycles := s.cycles + l.cycles })

/-- STA, STX and STY, in every mode: one bus write of the register to the effective address, no flag, the row's base cost
whether or not a page is crossed (R183, R184, R185). -/
def Obligations.StoresWriteRegisterToMemory : Prop :=
  ∀ (i : Instr) (s : State) (v : Byte),
    (i.mnemonic = .STA ∧ v = s.a) ∨ (i.mnemonic = .STX ∧ v = s.x) ∨ (i.mnemonic = .STY ∧ v = s.y) →
    ∃ m : MemOperand, i.operand = .mem m ∧
      exec i s = .next { busWrite (effAddr m s).val.addr v (effAddr m s).st with
        cycles := s.cycles + (entry i.opcode).cycles }

/-- The frame of memory. An instruction that stores to an operand changes at most the RAM cell of its effective address; a
form that stores nothing and pushes nothing leaves all of RAM alone, and every latch, the stall and the bank flags too
(R38-R42, R71, R80, R260). -/
def Obligations.OnlyTheStoredCellChanges : Prop :=
  ∀ (i : Instr) (s t : State), s.Inv → exec i s = .next t →
    (i.mnemonic ∈ [.STA, .STX, .STY, .ASL, .LSR, .ROL, .ROR, .INC, .DEC] → ∀ (m : MemOperand) (b : Nat),
      i.operand = .mem m → b ≠ (effAddr m s).val.addr.toNat → t.ram.read b = s.ram.read b) ∧
    (i.operand = .acc ∨ i.mnemonic ∉ [.STA, .STX, .STY, .ASL, .LSR, .ROL, .ROR, .INC, .DEC, .PHA, .PHP, .JSR, .BRK] →
      t.ram = s.ram ∧ t.nmiPending = s.nmiPending ∧ t.irqPending = s.irqPending ∧ t.stall = s.stall ∧
        t.osEnabled = s.osEnabled ∧ t.basicEnabled = s.basicEnabled)

/-- The transfers: the value moves, Z and N are its, except that TXS writes no flag; their encodings (R186-R191). -/
def Obligations.TransfersMoveRegisters : Prop :=
  ∀ s : State,
    exec .tax s = .next { s with x := s.a, flags := nz s.flags s.a, cycles := s.cycles + 2 } ∧
    exec .tay s = .next { s with y := s.a, flags := nz s.flags s.a, cycles := s.cycles + 2 } ∧
    exec .txa s = .next { s with a := s.x, flags := nz s.flags s.x, cycles := s.cycles + 2 } ∧
    exec .tya s = .next { s with a := s.y, flags := nz s.flags s.y, cycles := s.cycles + 2 } ∧
    exec .tsx s = .next { s with x := s.sp, flags := nz s.flags s.sp, cycles := s.cycles + 2 } ∧
    exec .txs s = .next { s with sp := s.x, cycles := s.cycles + 2 } ∧
    [Instr.tax, .tay, .txa, .tya, .tsx, .txs].map encode = [[0xAA], [0xA8], [0x8A], [0x98], [0xBA], [0x9A]]

/-! ### Arithmetic, logic, compare and bit test (43_arith_logic.md) -/

/-- ADC with D clear: the sum mod 256, C its carry, V exactly when the signed sum leaves -128..127, Z and N of the result
(R210, R211). -/
def Obligations.AdcBinaryAdds : Prop :=
  ∀ (i : Instr) (s : State), i.mnemonic = .ADC → s.flags.d = false → ∃ l, loaded i s = some l ∧
    (let sum := s.a.toNat + l.val.toNat + s.flags.c.toNat
     let signed := s.a.toInt + l.val.toInt + s.flags.c.toNat
     let r : Byte := BitVec.ofNat 8 sum
     exec i s = .next { l.st with
       a := r
       flags := { nz s.flags r with c := decide (256 ≤ sum), v := decide (signed < -128 ∨ 127 < signed) }
       cycles := s.cycles + l.cycles })

/-- ADC with D set, for every input: the digits are added and corrected as the rule says; Z is the binary sum's, N and V
those of the sum before its high digit is corrected (R212). -/
def Obligations.AdcDecimalCorrectsDigits : Prop :=
  ∀ (i : Instr) (s : State), i.mnemonic = .ADC → s.flags.d = true → ∃ l, loaded i s = some l ∧
    (let c := s.flags.c.toNat
     let low := s.a.toNat % 16 + l.val.toNat % 16 + c
     let low' := if low < 10 then low else (low + 6) % 16 + 16
     let t := 16 * (s.a.toNat / 16) + 16 * (l.val.toNat / 16) + low'
     let signed : Int := 16 * (s.a.toInt / 16) + 16 * (l.val.toInt / 16) + low'
     let t' := if t < 160 then t else t + 96
     exec i s = .next { l.st with
       a := BitVec.ofNat 8 t'
       flags := { s.flags with
         n := decide (128 ≤ t % 256)
         v := decide (signed < -128 ∨ 127 < signed)
         z := decide ((s.a.toNat + l.val.toNat + c) % 256 = 0)
         c := decide (256 ≤ t') }
       cycles := s.cycles + l.cycles })

/-- On decimal digits, ADC with D set adds decimal numbers, with C the decimal carry, and SBC with D set subtracts them,
with C clear on a borrow (follows from R212, R215). -/
def Obligations.DecimalModeIsDecimalArithmetic : Prop :=
  ∀ (a m : Byte) (f : Flags), isBcd a = true → isBcd m = true →
    (let r := adcDec a m f
     isBcd r.val = true ∧ bcdValue r.val = (bcdValue a + bcdValue m + f.c.toNat) % 100 ∧
       (r.flags.c = true ↔ 100 ≤ bcdValue a + bcdValue m + f.c.toNat)) ∧
    (let r := sbcDec a m f
     isBcd r.val = true ∧
       (bcdValue r.val : Int) = ((bcdValue a : Int) - bcdValue m - (1 - f.c.toNat)) % 100 ∧
       (r.flags.c = true ↔ bcdValue m + (1 - f.c.toNat) ≤ bcdValue a))

/-- SBC with D clear: the difference mod 256, C exactly when there is no borrow, V exactly when the signed difference leaves
-128..127, Z and N of the result; it is ADC of the complement (R213, R214). -/
def Obligations.SbcBinarySubtracts : Prop :=
  (∀ (i : Instr) (s : State), i.mnemonic = .SBC → s.flags.d = false → ∃ l, loaded i s = some l ∧
    (let diff : Int := (s.a.toNat : Int) - l.val.toNat - (1 - s.flags.c.toNat)
     let signed : Int := s.a.toInt - l.val.toInt - (1 - s.flags.c.toNat)
     let r : Byte := BitVec.ofInt 8 diff
     exec i s = .next { l.st with
       a := r
       flags := { nz s.flags r with c := decide (0 ≤ diff), v := decide (signed < -128 ∨ 127 < signed) }
       cycles := s.cycles + l.cycles })) ∧
  (∀ (a m : Byte) (f : Flags), sbcBin a m f = adcBin a (m ^^^ 0xFF) f)

/-- SBC with D set, for every input: N, V, Z and C are those of the binary difference, and only A is corrected digit by
digit (R215). -/
def Obligations.SbcDecimalCorrectsOnlyA : Prop :=
  ∀ (i : Instr) (s : State), i.mnemonic = .SBC → s.flags.d = true → ∃ l, loaded i s = some l ∧
    (let diff : Int := (s.a.toNat : Int) - l.val.toNat - (1 - s.flags.c.toNat)
     let signed : Int := s.a.toInt - l.val.toInt - (1 - s.flags.c.toNat)
     let low : Int := (s.a.toNat % 16 : Nat) - (l.val.toNat % 16 : Nat) + s.flags.c.toNat - 1
     let low' : Int := if low < 0 then (low - 6) % 16 - 16 else low
     let t : Int := (16 * (s.a.toNat / 16) : Nat) - (16 * (l.val.toNat / 16) : Nat) + low'
     exec i s = .next { l.st with
       a := BitVec.ofInt 8 (if t < 0 then t - 96 else t)
       flags := { nz s.flags (BitVec.ofInt 8 diff) with
         c := decide (0 ≤ diff)
         v := decide (signed < -128 ∨ 127 < signed) }
       cycles := s.cycles + l.cycles })

/-- AND, ORA and EOR: the bitwise result to A, Z and N its, C and V as they were (R216, R217, R218). -/
def Obligations.LogicWritesAAndNZ : Prop :=
  ∀ (i : Instr) (s : State) (f : Byte → Byte → Byte),
    (i.mnemonic = .AND ∧ f = fun a m => a &&& m) ∨ (i.mnemonic = .ORA ∧ f = fun a m => a ||| m) ∨
      (i.mnemonic = .EOR ∧ f = fun a m => a ^^^ m) →
    ∃ l, loaded i s = some l ∧ exec i s =
      .next { l.st with a := f s.a l.val, flags := nz s.flags (f s.a l.val), cycles := s.cycles + l.cycles }

/-- CMP, CPX and CPY: C exactly when the register is not below the operand, Z exactly when they are equal, N bit 7 of the
difference; no register changes, V stays, D has no effect (R219-R222). -/
def Obligations.ComparesSetCarryZeroNegative : Prop :=
  ∀ (i : Instr) (s : State) (r : Byte),
    (i.mnemonic = .CMP ∧ r = s.a) ∨ (i.mnemonic = .CPX ∧ r = s.x) ∨ (i.mnemonic = .CPY ∧ r = s.y) →
    ∃ l, loaded i s = some l ∧ exec i s = .next { l.st with
      flags := { s.flags with
        c := decide (l.val.toNat ≤ r.toNat)
        z := decide (r = l.val)
        n := (r - l.val).msb }
      cycles := s.cycles + l.cycles }

/-- BIT: Z from A and the operand, N and V bits 7 and 6 of the operand, C and A as they were (R223). -/
def Obligations.BitTestTakesNVFromOperand : Prop :=
  ∀ (i : Instr) (s : State), i.mnemonic = .BIT → ∃ l, loaded i s = some l ∧ exec i s = .next { l.st with
    flags := { s.flags with
      z := decide (s.a &&& l.val = 0)
      n := decide (128 ≤ l.val.toNat)
      v := decide (64 ≤ l.val.toNat % 128) }
    cycles := s.cycles + l.cycles }

/-! ### Shifts, rotates, increments and decrements (44_shift_incdec.md) -/

/-- ASL, LSR, ROL and ROR, on A and on memory: the result goes back where the operand came from, C is the bit shifted out, Z
and N are the result's (R250-R253, R260). -/
def Obligations.ShiftsMoveBitIntoCarry : Prop :=
  ∀ (i : Instr) (s : State), i.mnemonic ∈ [.ASL, .LSR, .ROL, .ROR] → ∃ l, loaded i s = some l ∧
    (let v := l.val.toNat
     let c := s.flags.c.toNat
     let out := decide (if i.mnemonic = .ASL ∨ i.mnemonic = .ROL then 128 ≤ v else v % 2 = 1)
     let r : Byte := BitVec.ofNat 8
       (if i.mnemonic = .ASL then 2 * v
        else if i.mnemonic = .ROL then 2 * v + c
        else if i.mnemonic = .LSR then v / 2
        else v / 2 + 128 * c)
     exec i s = .next { stored i s r l.st with
       flags := { nz s.flags r with c := out }
       cycles := s.cycles + l.cycles })

/-- INC, DEC, INX, INY, DEX and DEY: the byte plus or minus one, mod 256, back where it came from; Z and N the result's, C
and V as they were (R254-R260). -/
def Obligations.IncrementsWrapAndKeepCarry : Prop :=
  ∀ s : State,
    (∀ i : Instr, i.mnemonic = .INC ∨ i.mnemonic = .DEC → ∃ l, loaded i s = some l ∧
      (let r : Byte := BitVec.ofNat 8 (if i.mnemonic = .INC then l.val.toNat + 1 else l.val.toNat + 255)
       exec i s = .next { stored i s r l.st with flags := nz s.flags r, cycles := s.cycles + l.cycles })) ∧
    exec .inx s = .next { s with x := s.x + 1, flags := nz s.flags (s.x + 1), cycles := s.cycles + 2 } ∧
    exec .iny s = .next { s with y := s.y + 1, flags := nz s.flags (s.y + 1), cycles := s.cycles + 2 } ∧
    exec .dex s = .next { s with x := s.x - 1, flags := nz s.flags (s.x - 1), cycles := s.cycles + 2 } ∧
    exec .dey s = .next { s with y := s.y - 1, flags := nz s.flags (s.y - 1), cycles := s.cycles + 2 }

/-! ### Branches, jumps, calls and returns (45_control_flow.md) -/

/-- The eight branches: to the target when the flag is as the branch asks, else to the next instruction; 2 cycles, 3 when
taken, 4 when taken across a page; no flag changes; their encodings (R280-R288). -/
def Obligations.BranchesFollowTheirFlag : Prop :=
  ∀ (s : State) (d : Byte) (i : Instr) (cond : Bool),
    (i, cond) ∈ [(.bcc d, !s.flags.c), (.bcs d, s.flags.c), (.beq d, s.flags.z), (.bne d, !s.flags.z),
      (.bmi d, s.flags.n), (.bpl d, !s.flags.n), (.bvc d, !s.flags.v), (.bvs d, s.flags.v)] →
    [Instr.bcc d, .bcs d, .beq d, .bne d, .bmi d, .bpl d, .bvc d, .bvs d].map encode =
      [[0x90, d], [0xB0, d], [0xF0, d], [0xD0, d], [0x30, d], [0x10, d], [0x50, d], [0x70, d]] ∧
    exec i s = .next (if cond then
        { s with
          pc := (branchTarget d s).addr
          cycles := s.cycles + (if (branchTarget d s).cross then 4 else 3) }
      else { s with cycles := s.cycles + 2 })

/-- JMP: PC is the target, for the indirect form the one its pointer gives; JSR: the address of its last byte is pushed,
high byte first, and PC is the target; RTS: PC is the pulled address plus one; and an
RTS after a JSR resumes at the instruction after the JSR with SP as it was; their encodings (R289-R292). -/
def Obligations.JumpsCallsAndReturns : Prop :=
  ∀ (s : State) (t : Word),
    [Instr.jmpAbs t, .jmpInd t, .jsr t, .rts].map encode =
      [[0x4C, loByte t, hiByte t], [0x6C, loByte t, hiByte t], [0x20, loByte t, hiByte t], [0x60]] ∧
    exec (.jmpAbs t) s = .next { s with pc := t, cycles := s.cycles + 3 } ∧
    exec (.jmpInd t) s = .next { (read16Page t s).st with pc := (read16Page t s).val, cycles := s.cycles + 5 } ∧
    (s.windowsLegal = true →
      exec (.jsr t) s = .next { s with
        ram := (s.ram.write (stackCell s.sp) (hiByte (s.pc - 1))).write (stackCell (s.sp - 1)) (loByte (s.pc - 1))
        sp := s.sp - 2
        pc := t
        cycles := s.cycles + 6 } ∧
      exec .rts s = .next { s with
        pc := (s.ram.read (stackCell (s.sp + 2)) ++ s.ram.read (stackCell (s.sp + 1))) + 1
        sp := s.sp + 2
        cycles := s.cycles + 6 } ∧
      (s.Inv → ∃ u w : State, exec (.jsr t) s = .next u ∧ exec .rts u = .next w ∧ w.pc = s.pc ∧ w.sp = s.sp ∧
        w.flags = s.flags))

/-! ### Stack, status and system instructions (46_stack_flags_system.md) -/

/-- PHA, PHP, PLA and PLP: the byte pushed or pulled, SP, and the flags each writes; PHP pushes bits 5 and 4 set, PLP
ignores them; their encodings (R310-R313). -/
def Obligations.StackInstructionsMoveAAndStatus : Prop :=
  ∀ s : State, s.windowsLegal = true →
    (let v := s.ram.read (stackCell (s.sp + 1))
     exec .pha s = .next { s with
       ram := s.ram.write (stackCell s.sp) s.a, sp := s.sp - 1, cycles := s.cycles + 3 } ∧
     exec .php s = .next { s with
       ram := s.ram.write (stackCell s.sp) (s.flags.pack true), sp := s.sp - 1, cycles := s.cycles + 3 } ∧
     exec .pla s = .next { s with a := v, sp := s.sp + 1, flags := nz s.flags v, cycles := s.cycles + 4 } ∧
     exec .plp s = .next { s with flags := Flags.unpack v, sp := s.sp + 1, cycles := s.cycles + 4 } ∧
     [Instr.pha, .php, .pla, .plp].map encode = [[0x48], [0x08], [0x68], [0x28]])

/-- The packed status: each flag at its bit, bit 5 set, the break bit at bit 4; packing what was unpacked gives the byte
back but for bits 5 and 4, and unpacking what was packed gives the flags back (10_state.md R33, R34, R35). -/
def Obligations.StatusPacksAndUnpacks : Prop :=
  (∀ (f : Flags) (b : Bool), (f.pack b).toNat = 128 * f.n.toNat + 64 * f.v.toNat + 32 + 16 * b.toNat +
    8 * f.d.toNat + 4 * f.i.toNat + 2 * f.z.toNat + f.c.toNat) ∧
  (∀ (v : Byte) (b : Bool), (Flags.unpack v).pack b = (v &&& 0xCF) ||| 0x20 ||| (if b then 0x10 else 0x00)) ∧
  (∀ (f : Flags) (b : Bool), Flags.unpack (f.pack b) = f)

/-- BRK: the address of the BRK plus 2 (PC is one past the opcode here), high byte first, and the status with the break
bit set are pushed, I is set, and PC comes from the vector at 0xFFFE; the latches and D stay (R314). -/
def Obligations.BrkPushesAndVectors : Prop :=
  ∀ s : State, s.windowsLegal = true → encode .brk = [0x00] ∧
    (let entered : State := { s with
       ram := ((s.ram.write (stackCell s.sp) (hiByte (s.pc + 1))).write (stackCell (s.sp - 1)) (loByte (s.pc + 1))).write
         (stackCell (s.sp - 2)) (s.flags.pack true)
       sp := s.sp - 3
       flags := { s.flags with i := true } }
     exec .brk s = .next { (read16 0xFFFE entered).st with pc := (read16 0xFFFE entered).val, cycles := s.cycles + 7 })

/-- RTI: all six flags from the pulled status, then PC from the pulled address, with no adjustment (R315). -/
def Obligations.RtiRestoresStatusAndPc : Prop :=
  ∀ s : State, s.windowsLegal = true → encode .rti = [0x40] ∧ exec .rti s = .next { s with
    flags := Flags.unpack (s.ram.read (stackCell (s.sp + 1)))
    pc := s.ram.read (stackCell (s.sp + 3)) ++ s.ram.read (stackCell (s.sp + 2))
    sp := s.sp + 3
    cycles := s.cycles + 6 }

/-- CLC, SEC, CLI, SEI, CLD, SED and CLV write their one flag, and NOP nothing; their encodings (R316-R323). -/
def Obligations.FlagInstructionsWriteOneFlag : Prop :=
  ∀ s : State,
    exec .clc s = .next { s with flags := { s.flags with c := false }, cycles := s.cycles + 2 } ∧
    exec .sec s = .next { s with flags := { s.flags with c := true }, cycles := s.cycles + 2 } ∧
    exec .cli s = .next { s with flags := { s.flags with i := false }, cycles := s.cycles + 2 } ∧
    exec .sei s = .next { s with flags := { s.flags with i := true }, cycles := s.cycles + 2 } ∧
    exec .cld s = .next { s with flags := { s.flags with d := false }, cycles := s.cycles + 2 } ∧
    exec .sed s = .next { s with flags := { s.flags with d := true }, cycles := s.cycles + 2 } ∧
    exec .clv s = .next { s with flags := { s.flags with v := false }, cycles := s.cycles + 2 } ∧
    exec .nop s = .next { s with cycles := s.cycles + 2 } ∧
    [Instr.clc, .sec, .cli, .sei, .cld, .sed, .clv, .nop].map encode =
      [[0x18], [0x38], [0x58], [0x78], [0xD8], [0xF8], [0xB8], [0xEA]]

/-- An undocumented opcode halts and does nothing else (47_illegal.md R340): from a running state with its byte at PC, the
step ends halted with PC one past it, and returns 0. -/
def Obligations.UndocumentedOpcodeHalts : Prop :=
  ∀ op : Byte, op ∈ undocumented →
    (∀ s : State, exec (.ill op) s = .next { s with halted := true }) ∧
    (∀ s : State, s.Ready → s.Undisturbed → s.peek s.pc = some op →
      step s = .next { s with halted := true, pc := s.pc + 1 } ∧ stepReturn s = some 0)

/-! ### Interrupts (60_exceptions.md) and reset (70_reset_and_hazards.md) -/

/-- Interrupt entry: PC, high byte first, and the status with the break bit clear are pushed, I is set, and PC comes from
the vector, 0xFFFA for NMI and 0xFFFE for IRQ; nothing else changes (R356, R357, R358). -/
def Obligations.InterruptEntrySavesPcAndStatus : Prop :=
  ∀ (k : InterruptKind) (s : State), s.windowsLegal = true →
    (let vector : Word := match k with | .nmi => 0xFFFA | .irq => 0xFFFE
     let saved : State := { s with
       ram := ((s.ram.write (stackCell s.sp) (hiByte s.pc)).write (stackCell (s.sp - 1)) (loByte s.pc)).write
         (stackCell (s.sp - 2)) (s.flags.pack false)
       sp := s.sp - 3
       flags := { s.flags with i := true } }
     enterInterrupt k s = { (read16 vector saved).st with pc := (read16 vector saved).val })

/-- At the boundary a pending NMI is taken whatever I is, before a pending IRQ, which stays pending; a pending IRQ is taken
when I is clear and no NMI is pending. The same step goes on with the handler's first instruction: after the entry no
second interrupt is due, and I is set (R352, R353, R354, 40_engine.md R133). -/
def Obligations.InterruptIsTakenAtBoundary : Prop :=
  ∀ s : State, s.Ready → s.windowsLegal = true →
    (s.nmiPending = true →
      (let entered := charge 7 (enterInterrupt .nmi (s.setNmi false))
       step s = step entered ∧ entered.Ready ∧ entered.Undisturbed ∧ entered.irqPending = s.irqPending ∧
         entered.flags.i = true)) ∧
    (s.nmiPending = false → s.irqPending = true → s.flags.i = false →
      (let entered := charge 7 (enterInterrupt .irq (s.setIrq false))
       step s = step entered ∧ entered.Ready ∧ entered.Undisturbed ∧ entered.irqPending = false ∧
         entered.flags.i = true))

/-- While I is set a pending IRQ changes nothing of a step, and is still pending after it (R353). The two steps share
the device environment (log 6). -/
def Obligations.MaskedIrqIsKeptAndIgnored : Prop :=
  ∀ s : State, s.flags.i = true → s.nmiPending = false →
    step (s.setIrq true) = mapNext (fun t => t.setIrq true) (step (s.setIrq false))

/-- RTI undoes an interrupt entry: PC, the six flags and SP are as before, and so are A, X and Y (R362). -/
def Obligations.RtiUndoesInterruptEntry : Prop :=
  ∀ (k : InterruptKind) (s : State), s.Inv → ∃ t : State, exec .rti (enterInterrupt k s) = .next t ∧
    t.pc = s.pc ∧ t.flags = s.flags ∧ t.sp = s.sp ∧ t.a = s.a ∧ t.x = s.x ∧ t.y = s.y

/-- `reset()` from any state: every register, flag, latch and counter at its reset value, PC from the vector at 0xFFFC, and
RAM and the bank flags as they were; where the vector is storage a second reset changes nothing (R400, R401,
10_state.md R46). -/
def Obligations.ResetGivesFixedStateAndIsIdempotent : Prop :=
  ∀ s : State,
    (let cleared : State := { s with
       a := 0
       x := 0
       y := 0
       sp := 0xFF
       flags := ⟨false, false, true, false, false, false⟩
       halted := false
       cycles := 0
       nmiPending := false
       irqPending := false
       stall := false
       unset := [] }
     hostReset s = { (read16 0xFFFC cleared).st with pc := (read16 0xFFFC cleared).val }) ∧
    (s.IsStorage 0xFFFC → s.IsStorage 0xFFFD → hostReset (hostReset s) = hostReset s)
end

