-- ==== Sys2Proof/Laws/Decode.lean ====
section
/-! SUPPORT. The laws of the byte-order helpers, and what the opcode map gives at every opcode. -/

namespace Sys2Proof

theorem toNat_mkWord (hi lo : Byte) : (mkWord hi lo).toNat = 256 * hi.toNat + lo.toNat := by
  have := lo.isLt
  simp only [mkWord, BitVec.toNat_append, Nat.shiftLeft_eq]
  rw [Nat.mul_comm, ← Nat.two_pow_add_eq_or_of_lt this]

theorem toNat_hiByte (w : Word) : (hiByte w).toNat = w.toNat / 256 := by
  have := w.isLt
  simp only [hiByte, BitVec.extractLsb'_toNat, Nat.shiftRight_eq_div_pow]
  omega

theorem toNat_loByte (w : Word) : (loByte w).toNat = w.toNat % 256 := by
  simp [loByte]

@[simp] theorem mkWord_hiByte_loByte (w : Word) : mkWord (hiByte w) (loByte w) = w := by
  apply BitVec.eq_of_toNat_eq
  rw [toNat_mkWord, toNat_hiByte, toNat_loByte]
  omega

@[simp] theorem hiByte_mkWord (hi lo : Byte) : hiByte (mkWord hi lo) = hi := by
  have := lo.isLt
  apply BitVec.eq_of_toNat_eq
  rw [toNat_hiByte, toNat_mkWord]
  omega

@[simp] theorem loByte_mkWord (hi lo : Byte) : loByte (mkWord hi lo) = lo := by
  have := lo.isLt
  apply BitVec.eq_of_toNat_eq
  rw [toNat_loByte, toNat_mkWord]
  omega

/-- A fact about every byte, from the 256 numerals. -/
theorem forall_byte {p : Byte → Prop} (h : ∀ k < 256, p (BitVec.ofNat 8 k)) (b : Byte) : p b := by
  simpa using h b.toNat b.isLt

/-- The instruction of an opcode and its operand bytes has that opcode, the table's mnemonic, and as many of those bytes as
its mode has; and it is well-formed. -/
theorem instrOf_spec (op b1 b2 : Byte) :
    (instrOf op b1 b2).opcode = op ∧ (instrOf op b1 b2).mnemonic = (entry op).mnemonic ∧
      (instrOf op b1 b2).operand.bytes = [b1, b2].take (entry op).mode.operandBytes ∧
      (instrOf op b1 b2).wf = true := by
  have hlo := loByte_mkWord b2 b1
  have hhi := hiByte_mkWord b2 b1
  revert op
  apply forall_byte
  intro k hk
  interval_cases k <;> first
    | exact ⟨rfl, rfl, rfl, rfl⟩
    | (refine ⟨rfl, rfl, ?_, rfl⟩
       show [loByte (mkWord b2 b1), hiByte (mkWord b2 b1)] = [b1, b2]
       rw [hlo, hhi])

end Sys2Proof
end

