-- ==== Sys2Proof/Laws/Memory.lean ====
section
/-! SUPPORT. The laws of memory: a read after a write, and the canonical form, which every operation keeps. -/

namespace Sys2Proof.Machine

@[simp] theorem Memory.read_nil (k : Nat) : Memory.read [] k = Config.unlisted := rfl

theorem Memory.read_cons (a : Nat) (v : Byte) (m : Memory) (k : Nat) :
    Memory.read ((a, v) :: m) k = if k = a then v else Memory.read m k := rfl

/-- What the canonical form says of a memory that is not empty. -/
theorem Memory.wf_cons (a : Nat) (v : Byte) (m : Memory) :
    Memory.wf ((a, v) :: m) = true ↔ v ≠ Config.unlisted ∧ (∀ e ∈ m, a < e.1) ∧ Memory.wf m = true := by
  induction m generalizing a v with
  | nil => simp [Memory.wf]
  | cons e m ih =>
    obtain ⟨b, w⟩ := e
    have hb := ih b w
    simp only [Memory.wf, Bool.and_eq_true, bne_iff_ne, ne_eq, decide_eq_true_eq, List.forall_mem_cons]
    constructor
    · rintro ⟨⟨hv, hab⟩, hm⟩
      exact ⟨hv, ⟨hab, fun e he => lt_trans hab ((hb.1 hm).2.1 e he)⟩, hm⟩
    · rintro ⟨hv, ⟨hab, -⟩, hm⟩
      exact ⟨⟨hv, hab⟩, hm⟩

theorem Memory.wf_tail {e : Host.Cell} {m : Memory} (h : Memory.wf (e :: m) = true) : Memory.wf m = true :=
  ((Memory.wf_cons e.1 e.2 m).1 h).2.2

/-- An address below every listed one is unlisted. -/
theorem Memory.read_of_lt {m : Memory} {k : Nat} (h : ∀ e ∈ m, k < e.1) : m.read k = Config.unlisted := by
  induction m with
  | nil => rfl
  | cons e m ih =>
    obtain ⟨a, v⟩ := e
    have ha : k < a := h (a, v) List.mem_cons_self
    rw [Memory.read_cons, if_neg (by omega)]
    exact ih fun e he => h e (List.mem_cons_of_mem _ he)

/-- A read after an entry is put in front of higher addresses. -/
theorem Memory.read_put {m : Memory} {k : Nat} (h : ∀ e ∈ m, k < e.1) (j : Nat) (b : Byte) :
    (Memory.put k b m).read j = if j = k then b else m.read j := by
  unfold Memory.put
  by_cases hj : j = k
  · subst hj
    by_cases hb : b = Config.unlisted
    · simp [hb, Memory.read_of_lt h]
    · simp [hb, Memory.read_cons]
  · by_cases hb : b = Config.unlisted <;> simp [hb, hj, Memory.read_cons]

/-- Below the head, below every listed address. -/
theorem Memory.lt_of_lt_head {a k : Nat} {v : Byte} {m : Memory} (hk : k < a) (h : ∀ e ∈ m, a < e.1) :
    ∀ e ∈ ((a, v) :: m : Memory), k < e.1 :=
  List.forall_mem_cons.2 ⟨hk, fun e he => lt_trans hk (h e he)⟩

/-- A read after a write: the written byte at its address, every other address as before. -/
theorem Memory.read_write {m : Memory} (h : m.wf = true) (k j : Nat) (b : Byte) :
    (m.write k b).read j = if j = k then b else m.read j := by
  induction m with
  | nil => exact Memory.read_put (by simp) j b
  | cons e m ih =>
    obtain ⟨a, v⟩ := e
    obtain ⟨-, hlt, hm⟩ := (Memory.wf_cons a v m).1 h
    unfold Memory.write
    by_cases hka : k < a
    · rw [if_pos hka]
      exact Memory.read_put (Memory.lt_of_lt_head hka hlt) j b
    rw [if_neg hka]
    by_cases hk : k = a
    · subst hk
      rw [if_pos rfl, Memory.read_put hlt, Memory.read_cons]
      by_cases hj : j = k <;> simp [hj]
    · rw [if_neg hk, Memory.read_cons, ih hm, Memory.read_cons]
      by_cases hj : j = a
      · subst hj
        simp [Ne.symm hk]
      · simp [hj]

@[simp] theorem Memory.read_write_same {m : Memory} (h : m.wf = true) (k : Nat) (b : Byte) : (m.write k b).read k = b := by
  simp [Memory.read_write h]

theorem Memory.read_write_other {m : Memory} (h : m.wf = true) {k j : Nat} (b : Byte) (hj : j ≠ k) :
    (m.write k b).read j = m.read j := by
  simp [Memory.read_write h, hj]

theorem Memory.mem_put {m : Memory} {k : Nat} {b : Byte} {e : Host.Cell} (h : e ∈ Memory.put k b m) :
    e ∈ m ∨ e = (k, b) := by
  unfold Memory.put at h
  split at h
  · exact .inl h
  · exact (List.mem_cons.1 h).symm

/-- Every entry after a write was there before or is the written one. -/
theorem Memory.mem_write {m : Memory} {k : Nat} {b : Byte} {e : Host.Cell} (h : e ∈ m.write k b) : e ∈ m ∨ e = (k, b) := by
  induction m with
  | nil => exact Memory.mem_put h
  | cons c m ih =>
    obtain ⟨a, v⟩ := c
    unfold Memory.write at h
    by_cases hka : k < a
    · rw [if_pos hka] at h
      exact Memory.mem_put h
    rw [if_neg hka] at h
    by_cases hk : k = a
    · rw [if_pos hk] at h
      exact (Memory.mem_put h).imp (List.mem_cons_of_mem _) id
    · rw [if_neg hk] at h
      rcases List.mem_cons.1 h with h | h
      · exact .inl (h ▸ List.mem_cons_self)
      · exact (ih h).imp (List.mem_cons_of_mem _) id

theorem Memory.put_wf {m : Memory} (hm : m.wf = true) {k : Nat} (h : ∀ e ∈ m, k < e.1) (b : Byte) :
    (Memory.put k b m).wf = true := by
  unfold Memory.put
  split
  · exact hm
  · rename_i hb
    exact (Memory.wf_cons k b m).2 ⟨hb, h, hm⟩

/-- A write keeps the canonical form. -/
theorem Memory.write_wf {m : Memory} (h : m.wf = true) (k : Nat) (b : Byte) : (m.write k b).wf = true := by
  induction m with
  | nil => exact Memory.put_wf rfl (by simp) b
  | cons e m ih =>
    obtain ⟨a, v⟩ := e
    obtain ⟨hv, hlt, hm⟩ := (Memory.wf_cons a v m).1 h
    unfold Memory.write
    by_cases hka : k < a
    · rw [if_pos hka]
      exact Memory.put_wf h (Memory.lt_of_lt_head hka hlt) b
    rw [if_neg hka]
    by_cases hk : k = a
    · subst hk
      rw [if_pos rfl]
      exact Memory.put_wf hm hlt b
    · rw [if_neg hk]
      refine (Memory.wf_cons a v _).2 ⟨hv, fun e he => ?_, ih hm⟩
      rcases Memory.mem_write he with he | rfl
      · exact hlt e he
      · show a < k
        omega

/-- A write inside a size keeps the memory inside it. -/
theorem Memory.write_within {n : Nat} {m : Memory} (h : m.within n = true) {k : Nat} (hk : k < n) (b : Byte) :
    (m.write k b).within n = true := by
  simp only [Memory.within, List.all_eq_true, decide_eq_true_eq] at h ⊢
  intro e he
  rcases Memory.mem_write he with he | rfl
  · exact h e he
  · exact hk

/-- Two canonical memories that read alike are equal. -/
theorem Memory.ext_read {m₁ m₂ : Memory} (h₁ : m₁.wf = true) (h₂ : m₂.wf = true) (h : ∀ k, m₁.read k = m₂.read k) :
    m₁ = m₂ := by
  induction m₁ generalizing m₂ with
  | nil =>
    cases m₂ with
    | nil => rfl
    | cons e m =>
      obtain ⟨a, v⟩ := e
      have := h a
      simp only [Memory.read_nil, Memory.read_cons, if_true] at this
      exact absurd this.symm ((Memory.wf_cons a v m).1 h₂).1
  | cons e m ih =>
    obtain ⟨a, v⟩ := e
    obtain ⟨hv, hlt, hm⟩ := (Memory.wf_cons a v m).1 h₁
    cases m₂ with
    | nil =>
      have := h a
      simp only [Memory.read_nil, Memory.read_cons, if_true] at this
      exact absurd this hv
    | cons e' m' =>
      obtain ⟨b, w⟩ := e'
      obtain ⟨hw, hlt', hm'⟩ := (Memory.wf_cons b w m').1 h₂
      have hab : a = b := by
        rcases lt_trichotomy a b with hlt₀ | heq | hlt₀
        · have ha := h a
          rw [Memory.read_cons, if_pos rfl, Memory.read_cons, if_neg (by omega),
            Memory.read_of_lt fun e he => lt_trans hlt₀ (hlt' e he)] at ha
          exact absurd ha hv
        · exact heq
        · have hb := h b
          rw [Memory.read_cons, if_neg (by omega), Memory.read_cons, if_pos rfl,
            Memory.read_of_lt fun e he => lt_trans hlt₀ (hlt e he)] at hb
          exact absurd hb.symm hw
      subst hab
      have hvw : v = w := by simpa [Memory.read_cons] using h a
      subst hvw
      rw [ih hm hm' fun k => ?_]
      by_cases hk : k = a
      · subst hk
        rw [Memory.read_of_lt hlt, Memory.read_of_lt hlt']
      · simpa [Memory.read_cons, hk] using h k

end Sys2Proof.Machine
end

