-- ==== Sys2Proof/Laws/State.lean ====
section
/-! SUPPORT. What each update of State does to each field: one lemma per field per update. -/

namespace Sys2Proof.Machine

variable (s : State)

@[simp] theorem State.setA_a (e : Byte) : (s.setA e).a = e := rfl
@[simp] theorem State.setA_x (e : Byte) : (s.setA e).x = s.x := rfl
@[simp] theorem State.setA_y (e : Byte) : (s.setA e).y = s.y := rfl
@[simp] theorem State.setA_sp (e : Byte) : (s.setA e).sp = s.sp := rfl
@[simp] theorem State.setA_pc (e : Byte) : (s.setA e).pc = s.pc := rfl
@[simp] theorem State.setA_flags (e : Byte) : (s.setA e).flags = s.flags := rfl
@[simp] theorem State.setA_halted (e : Byte) : (s.setA e).halted = s.halted := rfl
@[simp] theorem State.setA_cycles (e : Byte) : (s.setA e).cycles = s.cycles := rfl
@[simp] theorem State.setA_nmiPending (e : Byte) : (s.setA e).nmiPending = s.nmiPending := rfl
@[simp] theorem State.setA_irqPending (e : Byte) : (s.setA e).irqPending = s.irqPending := rfl
@[simp] theorem State.setA_stall (e : Byte) : (s.setA e).stall = s.stall := rfl
@[simp] theorem State.setA_osEnabled (e : Byte) : (s.setA e).osEnabled = s.osEnabled := rfl
@[simp] theorem State.setA_basicEnabled (e : Byte) : (s.setA e).basicEnabled = s.basicEnabled := rfl
@[simp] theorem State.setA_ram (e : Byte) : (s.setA e).ram = s.ram := rfl
@[simp] theorem State.setA_osRom (e : Byte) : (s.setA e).osRom = s.osRom := rfl
@[simp] theorem State.setA_basicRom (e : Byte) : (s.setA e).basicRom = s.basicRom := rfl
@[simp] theorem State.setA_chipWindows (e : Byte) : (s.setA e).chipWindows = s.chipWindows := rfl
@[simp] theorem State.setA_wsyncReg (e : Byte) : (s.setA e).wsyncReg = s.wsyncReg := rfl
@[simp] theorem State.setA_unset (e : Byte) : (s.setA e).unset = s.unset := rfl
@[simp] theorem State.setA_draws (e : Byte) : (s.setA e).draws = s.draws := rfl

@[simp] theorem State.setX_a (e : Byte) : (s.setX e).a = s.a := rfl
@[simp] theorem State.setX_x (e : Byte) : (s.setX e).x = e := rfl
@[simp] theorem State.setX_y (e : Byte) : (s.setX e).y = s.y := rfl
@[simp] theorem State.setX_sp (e : Byte) : (s.setX e).sp = s.sp := rfl
@[simp] theorem State.setX_pc (e : Byte) : (s.setX e).pc = s.pc := rfl
@[simp] theorem State.setX_flags (e : Byte) : (s.setX e).flags = s.flags := rfl
@[simp] theorem State.setX_halted (e : Byte) : (s.setX e).halted = s.halted := rfl
@[simp] theorem State.setX_cycles (e : Byte) : (s.setX e).cycles = s.cycles := rfl
@[simp] theorem State.setX_nmiPending (e : Byte) : (s.setX e).nmiPending = s.nmiPending := rfl
@[simp] theorem State.setX_irqPending (e : Byte) : (s.setX e).irqPending = s.irqPending := rfl
@[simp] theorem State.setX_stall (e : Byte) : (s.setX e).stall = s.stall := rfl
@[simp] theorem State.setX_osEnabled (e : Byte) : (s.setX e).osEnabled = s.osEnabled := rfl
@[simp] theorem State.setX_basicEnabled (e : Byte) : (s.setX e).basicEnabled = s.basicEnabled := rfl
@[simp] theorem State.setX_ram (e : Byte) : (s.setX e).ram = s.ram := rfl
@[simp] theorem State.setX_osRom (e : Byte) : (s.setX e).osRom = s.osRom := rfl
@[simp] theorem State.setX_basicRom (e : Byte) : (s.setX e).basicRom = s.basicRom := rfl
@[simp] theorem State.setX_chipWindows (e : Byte) : (s.setX e).chipWindows = s.chipWindows := rfl
@[simp] theorem State.setX_wsyncReg (e : Byte) : (s.setX e).wsyncReg = s.wsyncReg := rfl
@[simp] theorem State.setX_unset (e : Byte) : (s.setX e).unset = s.unset := rfl
@[simp] theorem State.setX_draws (e : Byte) : (s.setX e).draws = s.draws := rfl

@[simp] theorem State.setY_a (e : Byte) : (s.setY e).a = s.a := rfl
@[simp] theorem State.setY_x (e : Byte) : (s.setY e).x = s.x := rfl
@[simp] theorem State.setY_y (e : Byte) : (s.setY e).y = e := rfl
@[simp] theorem State.setY_sp (e : Byte) : (s.setY e).sp = s.sp := rfl
@[simp] theorem State.setY_pc (e : Byte) : (s.setY e).pc = s.pc := rfl
@[simp] theorem State.setY_flags (e : Byte) : (s.setY e).flags = s.flags := rfl
@[simp] theorem State.setY_halted (e : Byte) : (s.setY e).halted = s.halted := rfl
@[simp] theorem State.setY_cycles (e : Byte) : (s.setY e).cycles = s.cycles := rfl
@[simp] theorem State.setY_nmiPending (e : Byte) : (s.setY e).nmiPending = s.nmiPending := rfl
@[simp] theorem State.setY_irqPending (e : Byte) : (s.setY e).irqPending = s.irqPending := rfl
@[simp] theorem State.setY_stall (e : Byte) : (s.setY e).stall = s.stall := rfl
@[simp] theorem State.setY_osEnabled (e : Byte) : (s.setY e).osEnabled = s.osEnabled := rfl
@[simp] theorem State.setY_basicEnabled (e : Byte) : (s.setY e).basicEnabled = s.basicEnabled := rfl
@[simp] theorem State.setY_ram (e : Byte) : (s.setY e).ram = s.ram := rfl
@[simp] theorem State.setY_osRom (e : Byte) : (s.setY e).osRom = s.osRom := rfl
@[simp] theorem State.setY_basicRom (e : Byte) : (s.setY e).basicRom = s.basicRom := rfl
@[simp] theorem State.setY_chipWindows (e : Byte) : (s.setY e).chipWindows = s.chipWindows := rfl
@[simp] theorem State.setY_wsyncReg (e : Byte) : (s.setY e).wsyncReg = s.wsyncReg := rfl
@[simp] theorem State.setY_unset (e : Byte) : (s.setY e).unset = s.unset := rfl
@[simp] theorem State.setY_draws (e : Byte) : (s.setY e).draws = s.draws := rfl

@[simp] theorem State.setSp_a (e : Byte) : (s.setSp e).a = s.a := rfl
@[simp] theorem State.setSp_x (e : Byte) : (s.setSp e).x = s.x := rfl
@[simp] theorem State.setSp_y (e : Byte) : (s.setSp e).y = s.y := rfl
@[simp] theorem State.setSp_sp (e : Byte) : (s.setSp e).sp = e := rfl
@[simp] theorem State.setSp_pc (e : Byte) : (s.setSp e).pc = s.pc := rfl
@[simp] theorem State.setSp_flags (e : Byte) : (s.setSp e).flags = s.flags := rfl
@[simp] theorem State.setSp_halted (e : Byte) : (s.setSp e).halted = s.halted := rfl
@[simp] theorem State.setSp_cycles (e : Byte) : (s.setSp e).cycles = s.cycles := rfl
@[simp] theorem State.setSp_nmiPending (e : Byte) : (s.setSp e).nmiPending = s.nmiPending := rfl
@[simp] theorem State.setSp_irqPending (e : Byte) : (s.setSp e).irqPending = s.irqPending := rfl
@[simp] theorem State.setSp_stall (e : Byte) : (s.setSp e).stall = s.stall := rfl
@[simp] theorem State.setSp_osEnabled (e : Byte) : (s.setSp e).osEnabled = s.osEnabled := rfl
@[simp] theorem State.setSp_basicEnabled (e : Byte) : (s.setSp e).basicEnabled = s.basicEnabled := rfl
@[simp] theorem State.setSp_ram (e : Byte) : (s.setSp e).ram = s.ram := rfl
@[simp] theorem State.setSp_osRom (e : Byte) : (s.setSp e).osRom = s.osRom := rfl
@[simp] theorem State.setSp_basicRom (e : Byte) : (s.setSp e).basicRom = s.basicRom := rfl
@[simp] theorem State.setSp_chipWindows (e : Byte) : (s.setSp e).chipWindows = s.chipWindows := rfl
@[simp] theorem State.setSp_wsyncReg (e : Byte) : (s.setSp e).wsyncReg = s.wsyncReg := rfl
@[simp] theorem State.setSp_unset (e : Byte) : (s.setSp e).unset = s.unset := rfl
@[simp] theorem State.setSp_draws (e : Byte) : (s.setSp e).draws = s.draws := rfl

@[simp] theorem State.setPc_a (e : Word) : (s.setPc e).a = s.a := rfl
@[simp] theorem State.setPc_x (e : Word) : (s.setPc e).x = s.x := rfl
@[simp] theorem State.setPc_y (e : Word) : (s.setPc e).y = s.y := rfl
@[simp] theorem State.setPc_sp (e : Word) : (s.setPc e).sp = s.sp := rfl
@[simp] theorem State.setPc_pc (e : Word) : (s.setPc e).pc = e := rfl
@[simp] theorem State.setPc_flags (e : Word) : (s.setPc e).flags = s.flags := rfl
@[simp] theorem State.setPc_halted (e : Word) : (s.setPc e).halted = s.halted := rfl
@[simp] theorem State.setPc_cycles (e : Word) : (s.setPc e).cycles = s.cycles := rfl
@[simp] theorem State.setPc_nmiPending (e : Word) : (s.setPc e).nmiPending = s.nmiPending := rfl
@[simp] theorem State.setPc_irqPending (e : Word) : (s.setPc e).irqPending = s.irqPending := rfl
@[simp] theorem State.setPc_stall (e : Word) : (s.setPc e).stall = s.stall := rfl
@[simp] theorem State.setPc_osEnabled (e : Word) : (s.setPc e).osEnabled = s.osEnabled := rfl
@[simp] theorem State.setPc_basicEnabled (e : Word) : (s.setPc e).basicEnabled = s.basicEnabled := rfl
@[simp] theorem State.setPc_ram (e : Word) : (s.setPc e).ram = s.ram := rfl
@[simp] theorem State.setPc_osRom (e : Word) : (s.setPc e).osRom = s.osRom := rfl
@[simp] theorem State.setPc_basicRom (e : Word) : (s.setPc e).basicRom = s.basicRom := rfl
@[simp] theorem State.setPc_chipWindows (e : Word) : (s.setPc e).chipWindows = s.chipWindows := rfl
@[simp] theorem State.setPc_wsyncReg (e : Word) : (s.setPc e).wsyncReg = s.wsyncReg := rfl
@[simp] theorem State.setPc_unset (e : Word) : (s.setPc e).unset = s.unset := rfl
@[simp] theorem State.setPc_draws (e : Word) : (s.setPc e).draws = s.draws := rfl

@[simp] theorem State.setFlags_a (e : Flags) : (s.setFlags e).a = s.a := rfl
@[simp] theorem State.setFlags_x (e : Flags) : (s.setFlags e).x = s.x := rfl
@[simp] theorem State.setFlags_y (e : Flags) : (s.setFlags e).y = s.y := rfl
@[simp] theorem State.setFlags_sp (e : Flags) : (s.setFlags e).sp = s.sp := rfl
@[simp] theorem State.setFlags_pc (e : Flags) : (s.setFlags e).pc = s.pc := rfl
@[simp] theorem State.setFlags_flags (e : Flags) : (s.setFlags e).flags = e := rfl
@[simp] theorem State.setFlags_halted (e : Flags) : (s.setFlags e).halted = s.halted := rfl
@[simp] theorem State.setFlags_cycles (e : Flags) : (s.setFlags e).cycles = s.cycles := rfl
@[simp] theorem State.setFlags_nmiPending (e : Flags) : (s.setFlags e).nmiPending = s.nmiPending := rfl
@[simp] theorem State.setFlags_irqPending (e : Flags) : (s.setFlags e).irqPending = s.irqPending := rfl
@[simp] theorem State.setFlags_stall (e : Flags) : (s.setFlags e).stall = s.stall := rfl
@[simp] theorem State.setFlags_osEnabled (e : Flags) : (s.setFlags e).osEnabled = s.osEnabled := rfl
@[simp] theorem State.setFlags_basicEnabled (e : Flags) : (s.setFlags e).basicEnabled = s.basicEnabled := rfl
@[simp] theorem State.setFlags_ram (e : Flags) : (s.setFlags e).ram = s.ram := rfl
@[simp] theorem State.setFlags_osRom (e : Flags) : (s.setFlags e).osRom = s.osRom := rfl
@[simp] theorem State.setFlags_basicRom (e : Flags) : (s.setFlags e).basicRom = s.basicRom := rfl
@[simp] theorem State.setFlags_chipWindows (e : Flags) : (s.setFlags e).chipWindows = s.chipWindows := rfl
@[simp] theorem State.setFlags_wsyncReg (e : Flags) : (s.setFlags e).wsyncReg = s.wsyncReg := rfl
@[simp] theorem State.setFlags_unset (e : Flags) : (s.setFlags e).unset = s.unset := rfl
@[simp] theorem State.setFlags_draws (e : Flags) : (s.setFlags e).draws = s.draws := rfl

@[simp] theorem State.setHalted_a (e : Bool) : (s.setHalted e).a = s.a := rfl
@[simp] theorem State.setHalted_x (e : Bool) : (s.setHalted e).x = s.x := rfl
@[simp] theorem State.setHalted_y (e : Bool) : (s.setHalted e).y = s.y := rfl
@[simp] theorem State.setHalted_sp (e : Bool) : (s.setHalted e).sp = s.sp := rfl
@[simp] theorem State.setHalted_pc (e : Bool) : (s.setHalted e).pc = s.pc := rfl
@[simp] theorem State.setHalted_flags (e : Bool) : (s.setHalted e).flags = s.flags := rfl
@[simp] theorem State.setHalted_halted (e : Bool) : (s.setHalted e).halted = e := rfl
@[simp] theorem State.setHalted_cycles (e : Bool) : (s.setHalted e).cycles = s.cycles := rfl
@[simp] theorem State.setHalted_nmiPending (e : Bool) : (s.setHalted e).nmiPending = s.nmiPending := rfl
@[simp] theorem State.setHalted_irqPending (e : Bool) : (s.setHalted e).irqPending = s.irqPending := rfl
@[simp] theorem State.setHalted_stall (e : Bool) : (s.setHalted e).stall = s.stall := rfl
@[simp] theorem State.setHalted_osEnabled (e : Bool) : (s.setHalted e).osEnabled = s.osEnabled := rfl
@[simp] theorem State.setHalted_basicEnabled (e : Bool) : (s.setHalted e).basicEnabled = s.basicEnabled := rfl
@[simp] theorem State.setHalted_ram (e : Bool) : (s.setHalted e).ram = s.ram := rfl
@[simp] theorem State.setHalted_osRom (e : Bool) : (s.setHalted e).osRom = s.osRom := rfl
@[simp] theorem State.setHalted_basicRom (e : Bool) : (s.setHalted e).basicRom = s.basicRom := rfl
@[simp] theorem State.setHalted_chipWindows (e : Bool) : (s.setHalted e).chipWindows = s.chipWindows := rfl
@[simp] theorem State.setHalted_wsyncReg (e : Bool) : (s.setHalted e).wsyncReg = s.wsyncReg := rfl
@[simp] theorem State.setHalted_unset (e : Bool) : (s.setHalted e).unset = s.unset := rfl
@[simp] theorem State.setHalted_draws (e : Bool) : (s.setHalted e).draws = s.draws := rfl

@[simp] theorem State.setCycles_a (e : Nat) : (s.setCycles e).a = s.a := rfl
@[simp] theorem State.setCycles_x (e : Nat) : (s.setCycles e).x = s.x := rfl
@[simp] theorem State.setCycles_y (e : Nat) : (s.setCycles e).y = s.y := rfl
@[simp] theorem State.setCycles_sp (e : Nat) : (s.setCycles e).sp = s.sp := rfl
@[simp] theorem State.setCycles_pc (e : Nat) : (s.setCycles e).pc = s.pc := rfl
@[simp] theorem State.setCycles_flags (e : Nat) : (s.setCycles e).flags = s.flags := rfl
@[simp] theorem State.setCycles_halted (e : Nat) : (s.setCycles e).halted = s.halted := rfl
@[simp] theorem State.setCycles_cycles (e : Nat) : (s.setCycles e).cycles = e := rfl
@[simp] theorem State.setCycles_nmiPending (e : Nat) : (s.setCycles e).nmiPending = s.nmiPending := rfl
@[simp] theorem State.setCycles_irqPending (e : Nat) : (s.setCycles e).irqPending = s.irqPending := rfl
@[simp] theorem State.setCycles_stall (e : Nat) : (s.setCycles e).stall = s.stall := rfl
@[simp] theorem State.setCycles_osEnabled (e : Nat) : (s.setCycles e).osEnabled = s.osEnabled := rfl
@[simp] theorem State.setCycles_basicEnabled (e : Nat) : (s.setCycles e).basicEnabled = s.basicEnabled := rfl
@[simp] theorem State.setCycles_ram (e : Nat) : (s.setCycles e).ram = s.ram := rfl
@[simp] theorem State.setCycles_osRom (e : Nat) : (s.setCycles e).osRom = s.osRom := rfl
@[simp] theorem State.setCycles_basicRom (e : Nat) : (s.setCycles e).basicRom = s.basicRom := rfl
@[simp] theorem State.setCycles_chipWindows (e : Nat) : (s.setCycles e).chipWindows = s.chipWindows := rfl
@[simp] theorem State.setCycles_wsyncReg (e : Nat) : (s.setCycles e).wsyncReg = s.wsyncReg := rfl
@[simp] theorem State.setCycles_unset (e : Nat) : (s.setCycles e).unset = s.unset := rfl
@[simp] theorem State.setCycles_draws (e : Nat) : (s.setCycles e).draws = s.draws := rfl

@[simp] theorem State.setNmi_a (e : Bool) : (s.setNmi e).a = s.a := rfl
@[simp] theorem State.setNmi_x (e : Bool) : (s.setNmi e).x = s.x := rfl
@[simp] theorem State.setNmi_y (e : Bool) : (s.setNmi e).y = s.y := rfl
@[simp] theorem State.setNmi_sp (e : Bool) : (s.setNmi e).sp = s.sp := rfl
@[simp] theorem State.setNmi_pc (e : Bool) : (s.setNmi e).pc = s.pc := rfl
@[simp] theorem State.setNmi_flags (e : Bool) : (s.setNmi e).flags = s.flags := rfl
@[simp] theorem State.setNmi_halted (e : Bool) : (s.setNmi e).halted = s.halted := rfl
@[simp] theorem State.setNmi_cycles (e : Bool) : (s.setNmi e).cycles = s.cycles := rfl
@[simp] theorem State.setNmi_nmiPending (e : Bool) : (s.setNmi e).nmiPending = e := rfl
@[simp] theorem State.setNmi_irqPending (e : Bool) : (s.setNmi e).irqPending = s.irqPending := rfl
@[simp] theorem State.setNmi_stall (e : Bool) : (s.setNmi e).stall = s.stall := rfl
@[simp] theorem State.setNmi_osEnabled (e : Bool) : (s.setNmi e).osEnabled = s.osEnabled := rfl
@[simp] theorem State.setNmi_basicEnabled (e : Bool) : (s.setNmi e).basicEnabled = s.basicEnabled := rfl
@[simp] theorem State.setNmi_ram (e : Bool) : (s.setNmi e).ram = s.ram := rfl
@[simp] theorem State.setNmi_osRom (e : Bool) : (s.setNmi e).osRom = s.osRom := rfl
@[simp] theorem State.setNmi_basicRom (e : Bool) : (s.setNmi e).basicRom = s.basicRom := rfl
@[simp] theorem State.setNmi_chipWindows (e : Bool) : (s.setNmi e).chipWindows = s.chipWindows := rfl
@[simp] theorem State.setNmi_wsyncReg (e : Bool) : (s.setNmi e).wsyncReg = s.wsyncReg := rfl
@[simp] theorem State.setNmi_unset (e : Bool) : (s.setNmi e).unset = s.unset := rfl
@[simp] theorem State.setNmi_draws (e : Bool) : (s.setNmi e).draws = s.draws := rfl

@[simp] theorem State.setIrq_a (e : Bool) : (s.setIrq e).a = s.a := rfl
@[simp] theorem State.setIrq_x (e : Bool) : (s.setIrq e).x = s.x := rfl
@[simp] theorem State.setIrq_y (e : Bool) : (s.setIrq e).y = s.y := rfl
@[simp] theorem State.setIrq_sp (e : Bool) : (s.setIrq e).sp = s.sp := rfl
@[simp] theorem State.setIrq_pc (e : Bool) : (s.setIrq e).pc = s.pc := rfl
@[simp] theorem State.setIrq_flags (e : Bool) : (s.setIrq e).flags = s.flags := rfl
@[simp] theorem State.setIrq_halted (e : Bool) : (s.setIrq e).halted = s.halted := rfl
@[simp] theorem State.setIrq_cycles (e : Bool) : (s.setIrq e).cycles = s.cycles := rfl
@[simp] theorem State.setIrq_nmiPending (e : Bool) : (s.setIrq e).nmiPending = s.nmiPending := rfl
@[simp] theorem State.setIrq_irqPending (e : Bool) : (s.setIrq e).irqPending = e := rfl
@[simp] theorem State.setIrq_stall (e : Bool) : (s.setIrq e).stall = s.stall := rfl
@[simp] theorem State.setIrq_osEnabled (e : Bool) : (s.setIrq e).osEnabled = s.osEnabled := rfl
@[simp] theorem State.setIrq_basicEnabled (e : Bool) : (s.setIrq e).basicEnabled = s.basicEnabled := rfl
@[simp] theorem State.setIrq_ram (e : Bool) : (s.setIrq e).ram = s.ram := rfl
@[simp] theorem State.setIrq_osRom (e : Bool) : (s.setIrq e).osRom = s.osRom := rfl
@[simp] theorem State.setIrq_basicRom (e : Bool) : (s.setIrq e).basicRom = s.basicRom := rfl
@[simp] theorem State.setIrq_chipWindows (e : Bool) : (s.setIrq e).chipWindows = s.chipWindows := rfl
@[simp] theorem State.setIrq_wsyncReg (e : Bool) : (s.setIrq e).wsyncReg = s.wsyncReg := rfl
@[simp] theorem State.setIrq_unset (e : Bool) : (s.setIrq e).unset = s.unset := rfl
@[simp] theorem State.setIrq_draws (e : Bool) : (s.setIrq e).draws = s.draws := rfl

@[simp] theorem State.setStall_a (e : Bool) : (s.setStall e).a = s.a := rfl
@[simp] theorem State.setStall_x (e : Bool) : (s.setStall e).x = s.x := rfl
@[simp] theorem State.setStall_y (e : Bool) : (s.setStall e).y = s.y := rfl
@[simp] theorem State.setStall_sp (e : Bool) : (s.setStall e).sp = s.sp := rfl
@[simp] theorem State.setStall_pc (e : Bool) : (s.setStall e).pc = s.pc := rfl
@[simp] theorem State.setStall_flags (e : Bool) : (s.setStall e).flags = s.flags := rfl
@[simp] theorem State.setStall_halted (e : Bool) : (s.setStall e).halted = s.halted := rfl
@[simp] theorem State.setStall_cycles (e : Bool) : (s.setStall e).cycles = s.cycles := rfl
@[simp] theorem State.setStall_nmiPending (e : Bool) : (s.setStall e).nmiPending = s.nmiPending := rfl
@[simp] theorem State.setStall_irqPending (e : Bool) : (s.setStall e).irqPending = s.irqPending := rfl
@[simp] theorem State.setStall_stall (e : Bool) : (s.setStall e).stall = e := rfl
@[simp] theorem State.setStall_osEnabled (e : Bool) : (s.setStall e).osEnabled = s.osEnabled := rfl
@[simp] theorem State.setStall_basicEnabled (e : Bool) : (s.setStall e).basicEnabled = s.basicEnabled := rfl
@[simp] theorem State.setStall_ram (e : Bool) : (s.setStall e).ram = s.ram := rfl
@[simp] theorem State.setStall_osRom (e : Bool) : (s.setStall e).osRom = s.osRom := rfl
@[simp] theorem State.setStall_basicRom (e : Bool) : (s.setStall e).basicRom = s.basicRom := rfl
@[simp] theorem State.setStall_chipWindows (e : Bool) : (s.setStall e).chipWindows = s.chipWindows := rfl
@[simp] theorem State.setStall_wsyncReg (e : Bool) : (s.setStall e).wsyncReg = s.wsyncReg := rfl
@[simp] theorem State.setStall_unset (e : Bool) : (s.setStall e).unset = s.unset := rfl
@[simp] theorem State.setStall_draws (e : Bool) : (s.setStall e).draws = s.draws := rfl

@[simp] theorem State.setOsEnabled_a (e : Bool) : (s.setOsEnabled e).a = s.a := rfl
@[simp] theorem State.setOsEnabled_x (e : Bool) : (s.setOsEnabled e).x = s.x := rfl
@[simp] theorem State.setOsEnabled_y (e : Bool) : (s.setOsEnabled e).y = s.y := rfl
@[simp] theorem State.setOsEnabled_sp (e : Bool) : (s.setOsEnabled e).sp = s.sp := rfl
@[simp] theorem State.setOsEnabled_pc (e : Bool) : (s.setOsEnabled e).pc = s.pc := rfl
@[simp] theorem State.setOsEnabled_flags (e : Bool) : (s.setOsEnabled e).flags = s.flags := rfl
@[simp] theorem State.setOsEnabled_halted (e : Bool) : (s.setOsEnabled e).halted = s.halted := rfl
@[simp] theorem State.setOsEnabled_cycles (e : Bool) : (s.setOsEnabled e).cycles = s.cycles := rfl
@[simp] theorem State.setOsEnabled_nmiPending (e : Bool) : (s.setOsEnabled e).nmiPending = s.nmiPending := rfl
@[simp] theorem State.setOsEnabled_irqPending (e : Bool) : (s.setOsEnabled e).irqPending = s.irqPending := rfl
@[simp] theorem State.setOsEnabled_stall (e : Bool) : (s.setOsEnabled e).stall = s.stall := rfl
@[simp] theorem State.setOsEnabled_osEnabled (e : Bool) : (s.setOsEnabled e).osEnabled = e := rfl
@[simp] theorem State.setOsEnabled_basicEnabled (e : Bool) : (s.setOsEnabled e).basicEnabled = s.basicEnabled := rfl
@[simp] theorem State.setOsEnabled_ram (e : Bool) : (s.setOsEnabled e).ram = s.ram := rfl
@[simp] theorem State.setOsEnabled_osRom (e : Bool) : (s.setOsEnabled e).osRom = s.osRom := rfl
@[simp] theorem State.setOsEnabled_basicRom (e : Bool) : (s.setOsEnabled e).basicRom = s.basicRom := rfl
@[simp] theorem State.setOsEnabled_chipWindows (e : Bool) : (s.setOsEnabled e).chipWindows = s.chipWindows := rfl
@[simp] theorem State.setOsEnabled_wsyncReg (e : Bool) : (s.setOsEnabled e).wsyncReg = s.wsyncReg := rfl
@[simp] theorem State.setOsEnabled_unset (e : Bool) : (s.setOsEnabled e).unset = s.unset := rfl
@[simp] theorem State.setOsEnabled_draws (e : Bool) : (s.setOsEnabled e).draws = s.draws := rfl

@[simp] theorem State.setBasicEnabled_a (e : Bool) : (s.setBasicEnabled e).a = s.a := rfl
@[simp] theorem State.setBasicEnabled_x (e : Bool) : (s.setBasicEnabled e).x = s.x := rfl
@[simp] theorem State.setBasicEnabled_y (e : Bool) : (s.setBasicEnabled e).y = s.y := rfl
@[simp] theorem State.setBasicEnabled_sp (e : Bool) : (s.setBasicEnabled e).sp = s.sp := rfl
@[simp] theorem State.setBasicEnabled_pc (e : Bool) : (s.setBasicEnabled e).pc = s.pc := rfl
@[simp] theorem State.setBasicEnabled_flags (e : Bool) : (s.setBasicEnabled e).flags = s.flags := rfl
@[simp] theorem State.setBasicEnabled_halted (e : Bool) : (s.setBasicEnabled e).halted = s.halted := rfl
@[simp] theorem State.setBasicEnabled_cycles (e : Bool) : (s.setBasicEnabled e).cycles = s.cycles := rfl
@[simp] theorem State.setBasicEnabled_nmiPending (e : Bool) : (s.setBasicEnabled e).nmiPending = s.nmiPending := rfl
@[simp] theorem State.setBasicEnabled_irqPending (e : Bool) : (s.setBasicEnabled e).irqPending = s.irqPending := rfl
@[simp] theorem State.setBasicEnabled_stall (e : Bool) : (s.setBasicEnabled e).stall = s.stall := rfl
@[simp] theorem State.setBasicEnabled_osEnabled (e : Bool) : (s.setBasicEnabled e).osEnabled = s.osEnabled := rfl
@[simp] theorem State.setBasicEnabled_basicEnabled (e : Bool) : (s.setBasicEnabled e).basicEnabled = e := rfl
@[simp] theorem State.setBasicEnabled_ram (e : Bool) : (s.setBasicEnabled e).ram = s.ram := rfl
@[simp] theorem State.setBasicEnabled_osRom (e : Bool) : (s.setBasicEnabled e).osRom = s.osRom := rfl
@[simp] theorem State.setBasicEnabled_basicRom (e : Bool) : (s.setBasicEnabled e).basicRom = s.basicRom := rfl
@[simp] theorem State.setBasicEnabled_chipWindows (e : Bool) : (s.setBasicEnabled e).chipWindows = s.chipWindows := rfl
@[simp] theorem State.setBasicEnabled_wsyncReg (e : Bool) : (s.setBasicEnabled e).wsyncReg = s.wsyncReg := rfl
@[simp] theorem State.setBasicEnabled_unset (e : Bool) : (s.setBasicEnabled e).unset = s.unset := rfl
@[simp] theorem State.setBasicEnabled_draws (e : Bool) : (s.setBasicEnabled e).draws = s.draws := rfl

@[simp] theorem State.setRam_a (e : Memory) : (s.setRam e).a = s.a := rfl
@[simp] theorem State.setRam_x (e : Memory) : (s.setRam e).x = s.x := rfl
@[simp] theorem State.setRam_y (e : Memory) : (s.setRam e).y = s.y := rfl
@[simp] theorem State.setRam_sp (e : Memory) : (s.setRam e).sp = s.sp := rfl
@[simp] theorem State.setRam_pc (e : Memory) : (s.setRam e).pc = s.pc := rfl
@[simp] theorem State.setRam_flags (e : Memory) : (s.setRam e).flags = s.flags := rfl
@[simp] theorem State.setRam_halted (e : Memory) : (s.setRam e).halted = s.halted := rfl
@[simp] theorem State.setRam_cycles (e : Memory) : (s.setRam e).cycles = s.cycles := rfl
@[simp] theorem State.setRam_nmiPending (e : Memory) : (s.setRam e).nmiPending = s.nmiPending := rfl
@[simp] theorem State.setRam_irqPending (e : Memory) : (s.setRam e).irqPending = s.irqPending := rfl
@[simp] theorem State.setRam_stall (e : Memory) : (s.setRam e).stall = s.stall := rfl
@[simp] theorem State.setRam_osEnabled (e : Memory) : (s.setRam e).osEnabled = s.osEnabled := rfl
@[simp] theorem State.setRam_basicEnabled (e : Memory) : (s.setRam e).basicEnabled = s.basicEnabled := rfl
@[simp] theorem State.setRam_ram (e : Memory) : (s.setRam e).ram = e := rfl
@[simp] theorem State.setRam_osRom (e : Memory) : (s.setRam e).osRom = s.osRom := rfl
@[simp] theorem State.setRam_basicRom (e : Memory) : (s.setRam e).basicRom = s.basicRom := rfl
@[simp] theorem State.setRam_chipWindows (e : Memory) : (s.setRam e).chipWindows = s.chipWindows := rfl
@[simp] theorem State.setRam_wsyncReg (e : Memory) : (s.setRam e).wsyncReg = s.wsyncReg := rfl
@[simp] theorem State.setRam_unset (e : Memory) : (s.setRam e).unset = s.unset := rfl
@[simp] theorem State.setRam_draws (e : Memory) : (s.setRam e).draws = s.draws := rfl

@[simp] theorem State.setOsRom_a (e : Memory) : (s.setOsRom e).a = s.a := rfl
@[simp] theorem State.setOsRom_x (e : Memory) : (s.setOsRom e).x = s.x := rfl
@[simp] theorem State.setOsRom_y (e : Memory) : (s.setOsRom e).y = s.y := rfl
@[simp] theorem State.setOsRom_sp (e : Memory) : (s.setOsRom e).sp = s.sp := rfl
@[simp] theorem State.setOsRom_pc (e : Memory) : (s.setOsRom e).pc = s.pc := rfl
@[simp] theorem State.setOsRom_flags (e : Memory) : (s.setOsRom e).flags = s.flags := rfl
@[simp] theorem State.setOsRom_halted (e : Memory) : (s.setOsRom e).halted = s.halted := rfl
@[simp] theorem State.setOsRom_cycles (e : Memory) : (s.setOsRom e).cycles = s.cycles := rfl
@[simp] theorem State.setOsRom_nmiPending (e : Memory) : (s.setOsRom e).nmiPending = s.nmiPending := rfl
@[simp] theorem State.setOsRom_irqPending (e : Memory) : (s.setOsRom e).irqPending = s.irqPending := rfl
@[simp] theorem State.setOsRom_stall (e : Memory) : (s.setOsRom e).stall = s.stall := rfl
@[simp] theorem State.setOsRom_osEnabled (e : Memory) : (s.setOsRom e).osEnabled = s.osEnabled := rfl
@[simp] theorem State.setOsRom_basicEnabled (e : Memory) : (s.setOsRom e).basicEnabled = s.basicEnabled := rfl
@[simp] theorem State.setOsRom_ram (e : Memory) : (s.setOsRom e).ram = s.ram := rfl
@[simp] theorem State.setOsRom_osRom (e : Memory) : (s.setOsRom e).osRom = e := rfl
@[simp] theorem State.setOsRom_basicRom (e : Memory) : (s.setOsRom e).basicRom = s.basicRom := rfl
@[simp] theorem State.setOsRom_chipWindows (e : Memory) : (s.setOsRom e).chipWindows = s.chipWindows := rfl
@[simp] theorem State.setOsRom_wsyncReg (e : Memory) : (s.setOsRom e).wsyncReg = s.wsyncReg := rfl
@[simp] theorem State.setOsRom_unset (e : Memory) : (s.setOsRom e).unset = s.unset := rfl
@[simp] theorem State.setOsRom_draws (e : Memory) : (s.setOsRom e).draws = s.draws := rfl

@[simp] theorem State.setBasicRom_a (e : Memory) : (s.setBasicRom e).a = s.a := rfl
@[simp] theorem State.setBasicRom_x (e : Memory) : (s.setBasicRom e).x = s.x := rfl
@[simp] theorem State.setBasicRom_y (e : Memory) : (s.setBasicRom e).y = s.y := rfl
@[simp] theorem State.setBasicRom_sp (e : Memory) : (s.setBasicRom e).sp = s.sp := rfl
@[simp] theorem State.setBasicRom_pc (e : Memory) : (s.setBasicRom e).pc = s.pc := rfl
@[simp] theorem State.setBasicRom_flags (e : Memory) : (s.setBasicRom e).flags = s.flags := rfl
@[simp] theorem State.setBasicRom_halted (e : Memory) : (s.setBasicRom e).halted = s.halted := rfl
@[simp] theorem State.setBasicRom_cycles (e : Memory) : (s.setBasicRom e).cycles = s.cycles := rfl
@[simp] theorem State.setBasicRom_nmiPending (e : Memory) : (s.setBasicRom e).nmiPending = s.nmiPending := rfl
@[simp] theorem State.setBasicRom_irqPending (e : Memory) : (s.setBasicRom e).irqPending = s.irqPending := rfl
@[simp] theorem State.setBasicRom_stall (e : Memory) : (s.setBasicRom e).stall = s.stall := rfl
@[simp] theorem State.setBasicRom_osEnabled (e : Memory) : (s.setBasicRom e).osEnabled = s.osEnabled := rfl
@[simp] theorem State.setBasicRom_basicEnabled (e : Memory) : (s.setBasicRom e).basicEnabled = s.basicEnabled := rfl
@[simp] theorem State.setBasicRom_ram (e : Memory) : (s.setBasicRom e).ram = s.ram := rfl
@[simp] theorem State.setBasicRom_osRom (e : Memory) : (s.setBasicRom e).osRom = s.osRom := rfl
@[simp] theorem State.setBasicRom_basicRom (e : Memory) : (s.setBasicRom e).basicRom = e := rfl
@[simp] theorem State.setBasicRom_chipWindows (e : Memory) : (s.setBasicRom e).chipWindows = s.chipWindows := rfl
@[simp] theorem State.setBasicRom_wsyncReg (e : Memory) : (s.setBasicRom e).wsyncReg = s.wsyncReg := rfl
@[simp] theorem State.setBasicRom_unset (e : Memory) : (s.setBasicRom e).unset = s.unset := rfl
@[simp] theorem State.setBasicRom_draws (e : Memory) : (s.setBasicRom e).draws = s.draws := rfl

@[simp] theorem State.setChipWindows_a (e : List ChipWindow) : (s.setChipWindows e).a = s.a := rfl
@[simp] theorem State.setChipWindows_x (e : List ChipWindow) : (s.setChipWindows e).x = s.x := rfl
@[simp] theorem State.setChipWindows_y (e : List ChipWindow) : (s.setChipWindows e).y = s.y := rfl
@[simp] theorem State.setChipWindows_sp (e : List ChipWindow) : (s.setChipWindows e).sp = s.sp := rfl
@[simp] theorem State.setChipWindows_pc (e : List ChipWindow) : (s.setChipWindows e).pc = s.pc := rfl
@[simp] theorem State.setChipWindows_flags (e : List ChipWindow) : (s.setChipWindows e).flags = s.flags := rfl
@[simp] theorem State.setChipWindows_halted (e : List ChipWindow) : (s.setChipWindows e).halted = s.halted := rfl
@[simp] theorem State.setChipWindows_cycles (e : List ChipWindow) : (s.setChipWindows e).cycles = s.cycles := rfl
@[simp] theorem State.setChipWindows_nmiPending (e : List ChipWindow) : (s.setChipWindows e).nmiPending = s.nmiPending := rfl
@[simp] theorem State.setChipWindows_irqPending (e : List ChipWindow) : (s.setChipWindows e).irqPending = s.irqPending := rfl
@[simp] theorem State.setChipWindows_stall (e : List ChipWindow) : (s.setChipWindows e).stall = s.stall := rfl
@[simp] theorem State.setChipWindows_osEnabled (e : List ChipWindow) : (s.setChipWindows e).osEnabled = s.osEnabled := rfl
@[simp] theorem State.setChipWindows_basicEnabled (e : List ChipWindow) : (s.setChipWindows e).basicEnabled = s.basicEnabled := rfl
@[simp] theorem State.setChipWindows_ram (e : List ChipWindow) : (s.setChipWindows e).ram = s.ram := rfl
@[simp] theorem State.setChipWindows_osRom (e : List ChipWindow) : (s.setChipWindows e).osRom = s.osRom := rfl
@[simp] theorem State.setChipWindows_basicRom (e : List ChipWindow) : (s.setChipWindows e).basicRom = s.basicRom := rfl
@[simp] theorem State.setChipWindows_chipWindows (e : List ChipWindow) : (s.setChipWindows e).chipWindows = e := rfl
@[simp] theorem State.setChipWindows_wsyncReg (e : List ChipWindow) : (s.setChipWindows e).wsyncReg = s.wsyncReg := rfl
@[simp] theorem State.setChipWindows_unset (e : List ChipWindow) : (s.setChipWindows e).unset = s.unset := rfl
@[simp] theorem State.setChipWindows_draws (e : List ChipWindow) : (s.setChipWindows e).draws = s.draws := rfl

@[simp] theorem State.setUnset_a (e : List Item) : (s.setUnset e).a = s.a := rfl
@[simp] theorem State.setUnset_x (e : List Item) : (s.setUnset e).x = s.x := rfl
@[simp] theorem State.setUnset_y (e : List Item) : (s.setUnset e).y = s.y := rfl
@[simp] theorem State.setUnset_sp (e : List Item) : (s.setUnset e).sp = s.sp := rfl
@[simp] theorem State.setUnset_pc (e : List Item) : (s.setUnset e).pc = s.pc := rfl
@[simp] theorem State.setUnset_flags (e : List Item) : (s.setUnset e).flags = s.flags := rfl
@[simp] theorem State.setUnset_halted (e : List Item) : (s.setUnset e).halted = s.halted := rfl
@[simp] theorem State.setUnset_cycles (e : List Item) : (s.setUnset e).cycles = s.cycles := rfl
@[simp] theorem State.setUnset_nmiPending (e : List Item) : (s.setUnset e).nmiPending = s.nmiPending := rfl
@[simp] theorem State.setUnset_irqPending (e : List Item) : (s.setUnset e).irqPending = s.irqPending := rfl
@[simp] theorem State.setUnset_stall (e : List Item) : (s.setUnset e).stall = s.stall := rfl
@[simp] theorem State.setUnset_osEnabled (e : List Item) : (s.setUnset e).osEnabled = s.osEnabled := rfl
@[simp] theorem State.setUnset_basicEnabled (e : List Item) : (s.setUnset e).basicEnabled = s.basicEnabled := rfl
@[simp] theorem State.setUnset_ram (e : List Item) : (s.setUnset e).ram = s.ram := rfl
@[simp] theorem State.setUnset_osRom (e : List Item) : (s.setUnset e).osRom = s.osRom := rfl
@[simp] theorem State.setUnset_basicRom (e : List Item) : (s.setUnset e).basicRom = s.basicRom := rfl
@[simp] theorem State.setUnset_chipWindows (e : List Item) : (s.setUnset e).chipWindows = s.chipWindows := rfl
@[simp] theorem State.setUnset_wsyncReg (e : List Item) : (s.setUnset e).wsyncReg = s.wsyncReg := rfl
@[simp] theorem State.setUnset_unset (e : List Item) : (s.setUnset e).unset = e := rfl
@[simp] theorem State.setUnset_draws (e : List Item) : (s.setUnset e).draws = s.draws := rfl

@[simp] theorem State.setDraws_a (e : Nat) : (s.setDraws e).a = s.a := rfl
@[simp] theorem State.setDraws_x (e : Nat) : (s.setDraws e).x = s.x := rfl
@[simp] theorem State.setDraws_y (e : Nat) : (s.setDraws e).y = s.y := rfl
@[simp] theorem State.setDraws_sp (e : Nat) : (s.setDraws e).sp = s.sp := rfl
@[simp] theorem State.setDraws_pc (e : Nat) : (s.setDraws e).pc = s.pc := rfl
@[simp] theorem State.setDraws_flags (e : Nat) : (s.setDraws e).flags = s.flags := rfl
@[simp] theorem State.setDraws_halted (e : Nat) : (s.setDraws e).halted = s.halted := rfl
@[simp] theorem State.setDraws_cycles (e : Nat) : (s.setDraws e).cycles = s.cycles := rfl
@[simp] theorem State.setDraws_nmiPending (e : Nat) : (s.setDraws e).nmiPending = s.nmiPending := rfl
@[simp] theorem State.setDraws_irqPending (e : Nat) : (s.setDraws e).irqPending = s.irqPending := rfl
@[simp] theorem State.setDraws_stall (e : Nat) : (s.setDraws e).stall = s.stall := rfl
@[simp] theorem State.setDraws_osEnabled (e : Nat) : (s.setDraws e).osEnabled = s.osEnabled := rfl
@[simp] theorem State.setDraws_basicEnabled (e : Nat) : (s.setDraws e).basicEnabled = s.basicEnabled := rfl
@[simp] theorem State.setDraws_ram (e : Nat) : (s.setDraws e).ram = s.ram := rfl
@[simp] theorem State.setDraws_osRom (e : Nat) : (s.setDraws e).osRom = s.osRom := rfl
@[simp] theorem State.setDraws_basicRom (e : Nat) : (s.setDraws e).basicRom = s.basicRom := rfl
@[simp] theorem State.setDraws_chipWindows (e : Nat) : (s.setDraws e).chipWindows = s.chipWindows := rfl
@[simp] theorem State.setDraws_wsyncReg (e : Nat) : (s.setDraws e).wsyncReg = s.wsyncReg := rfl
@[simp] theorem State.setDraws_unset (e : Nat) : (s.setDraws e).unset = s.unset := rfl
@[simp] theorem State.setDraws_draws (e : Nat) : (s.setDraws e).draws = e := rfl

end Sys2Proof.Machine
end

