-- ==== Sys2Proof/Laws/Bus.lean ====
section
/-! SUPPORT. What the shared operations can do: the decoder, the bus, the stack, the resolver. -/

namespace Sys2Proof.Machine

/-! ### The decoder reads the window table and the bank flags, and nothing else -/

variable (s : State) (addr : Word) (v : Byte)

@[simp] theorem State.region_setA (e : Byte) : (s.setA e).region addr = s.region addr := rfl
@[simp] theorem State.region_setX (e : Byte) : (s.setX e).region addr = s.region addr := rfl
@[simp] theorem State.region_setY (e : Byte) : (s.setY e).region addr = s.region addr := rfl
@[simp] theorem State.region_setSp (e : Byte) : (s.setSp e).region addr = s.region addr := rfl
@[simp] theorem State.region_setPc (e : Word) : (s.setPc e).region addr = s.region addr := rfl
@[simp] theorem State.region_setFlags (e : Flags) : (s.setFlags e).region addr = s.region addr := rfl
@[simp] theorem State.region_setHalted (e : Bool) : (s.setHalted e).region addr = s.region addr := rfl
@[simp] theorem State.region_setCycles (e : Nat) : (s.setCycles e).region addr = s.region addr := rfl
@[simp] theorem State.region_setNmi (e : Bool) : (s.setNmi e).region addr = s.region addr := rfl
@[simp] theorem State.region_setIrq (e : Bool) : (s.setIrq e).region addr = s.region addr := rfl
@[simp] theorem State.region_setStall (e : Bool) : (s.setStall e).region addr = s.region addr := rfl
@[simp] theorem State.region_setRam (e : Memory) : (s.setRam e).region addr = s.region addr := rfl
@[simp] theorem State.region_setOsRom (e : Memory) : (s.setOsRom e).region addr = s.region addr := rfl
@[simp] theorem State.region_setBasicRom (e : Memory) : (s.setBasicRom e).region addr = s.region addr := rfl
@[simp] theorem State.region_setUnset (e : List Item) : (s.setUnset e).region addr = s.region addr := rfl
@[simp] theorem State.region_setDraws (e : Nat) : (s.setDraws e).region addr = s.region addr := rfl

/-- A state with the same window table and bank flags resolves every address alike. -/
theorem State.region_congr {s t : State} (hw : t.chipWindows = s.chipWindows) (ho : t.osEnabled = s.osEnabled)
    (hb : t.basicEnabled = s.basicEnabled) (addr : Word) : t.region addr = s.region addr := by
  simp [State.region, State.windowOf, hw, ho, hb]

/-- An address that resolves to RAM resolves to its own cell. -/
theorem State.eq_of_region_ram {s : State} {addr a : Word} (h : s.region addr = .ram a) : a = addr := by
  unfold State.region at h
  split at h
  · cases h
  · split_ifs at h
    cases h
    rfl

/-! ### Bus reads -/

theorem busRead_of_ram {s : State} {addr a : Word} (h : s.region addr = .ram a) :
    busRead addr s = ⟨s.ram.read a.toNat, s⟩ := by
  simp [busRead, h]

/-- A read of storage gives the byte it shows and changes nothing. -/
theorem busRead_of_peek {s : State} {addr : Word} {v : Byte} (h : s.peek addr = some v) : busRead addr s = ⟨v, s⟩ := by
  unfold State.peek at h
  unfold busRead
  split at h <;> simp_all

/-- All a bus read can do to the state: move the counter of draws. -/
theorem busRead_st : ∃ n, (busRead addr s).st = s.setDraws n := by
  unfold busRead deviceRead
  split <;> first | exact ⟨s.draws, rfl⟩ | exact ⟨s.draws + 1, rfl⟩

theorem State.setDraws_setDraws (m n : Nat) : (s.setDraws m).setDraws n = s.setDraws n := rfl

theorem read16_st : ∃ n, (read16 addr s).st = s.setDraws n := by
  obtain ⟨m, hm⟩ := busRead_st s addr
  obtain ⟨n, hn⟩ := busRead_st (busRead addr s).st (addr + 1)
  exact ⟨n, hn.trans (by rw [hm]; rfl)⟩

theorem read16Page_st : ∃ n, (read16Page addr s).st = s.setDraws n := by
  obtain ⟨m, hm⟩ := busRead_st s addr
  obtain ⟨n, hn⟩ := busRead_st (busRead addr s).st (nextInPage addr)
  exact ⟨n, hn.trans (by rw [hm]; rfl)⟩

/-- All the resolver can do to the state: move the counter of draws. -/
theorem effAddr_st (m : MemOperand) : ∃ n, (effAddr m s).st = s.setDraws n := by
  cases m <;> first | exact ⟨s.draws, rfl⟩ | exact read16Page_st s _

/-- All a pull can do: move SP up, and the counter of draws. -/
theorem pull_st : ∃ n, (pull s).st = (s.setSp (s.sp + 1)).setDraws n :=
  busRead_st (s.setSp (s.sp + 1)) _

/-- All a fetch of one byte can do: move PC up, and the counter of draws. -/
theorem fetchByte_st : ∃ n, (fetchByte s).st = (s.setPc (s.pc + 1)).setDraws n := by
  obtain ⟨n, hn⟩ := busRead_st s s.pc
  exact ⟨n, by simp only [fetchByte, hn]; rfl⟩

/-! ### Bus writes -/

/-- What a bus write does, by region. -/
theorem busWrite_cases :
    (s.region addr = .ram addr ∧ busWrite addr v s = s.setRam (s.ram.write addr.toNat v)) ∨
    ((∃ off, s.region addr = .osRom off ∨ s.region addr = .basicRom off) ∧ busWrite addr v s = s) ∨
    (∃ dev idx, s.region addr = .window dev idx ∧ busWrite addr v s = deviceWrite dev idx v s) := by
  cases h : s.region addr with
  | ram a =>
    cases State.eq_of_region_ram h
    exact .inl ⟨rfl, by simp [busWrite, h]⟩
  | basicRom off => exact .inr (.inl ⟨⟨off, .inr rfl⟩, by simp [busWrite, h]⟩)
  | osRom off => exact .inr (.inl ⟨⟨off, .inl rfl⟩, by simp [busWrite, h]⟩)
  | window dev idx => exact .inr (.inr ⟨dev, idx, rfl, by simp [busWrite, h]⟩)

section
variable (dev : Device) (idx : Byte)

@[simp] theorem deviceWrite_a : (deviceWrite dev idx v s).a = s.a := by
  unfold deviceWrite; split <;> simp [applyEffect, setBank]

@[simp] theorem deviceWrite_x : (deviceWrite dev idx v s).x = s.x := by
  unfold deviceWrite; split <;> simp [applyEffect, setBank]

@[simp] theorem deviceWrite_y : (deviceWrite dev idx v s).y = s.y := by
  unfold deviceWrite; split <;> simp [applyEffect, setBank]

@[simp] theorem deviceWrite_sp : (deviceWrite dev idx v s).sp = s.sp := by
  unfold deviceWrite; split <;> simp [applyEffect, setBank]

@[simp] theorem deviceWrite_pc : (deviceWrite dev idx v s).pc = s.pc := by
  unfold deviceWrite; split <;> simp [applyEffect, setBank]

@[simp] theorem deviceWrite_flags : (deviceWrite dev idx v s).flags = s.flags := by
  unfold deviceWrite; split <;> simp [applyEffect, setBank]

@[simp] theorem deviceWrite_halted : (deviceWrite dev idx v s).halted = s.halted := by
  unfold deviceWrite; split <;> simp [applyEffect, setBank]

@[simp] theorem deviceWrite_cycles : (deviceWrite dev idx v s).cycles = s.cycles := by
  unfold deviceWrite; split <;> simp [applyEffect, setBank]

@[simp] theorem deviceWrite_osRom : (deviceWrite dev idx v s).osRom = s.osRom := by
  unfold deviceWrite; split <;> simp [applyEffect, setBank]

@[simp] theorem deviceWrite_basicRom : (deviceWrite dev idx v s).basicRom = s.basicRom := by
  unfold deviceWrite; split <;> simp [applyEffect, setBank]

@[simp] theorem deviceWrite_chipWindows : (deviceWrite dev idx v s).chipWindows = s.chipWindows := by
  unfold deviceWrite; split <;> simp [applyEffect, setBank]

@[simp] theorem deviceWrite_wsyncReg : (deviceWrite dev idx v s).wsyncReg = s.wsyncReg := by
  unfold deviceWrite; split <;> simp [applyEffect, setBank]

@[simp] theorem deviceWrite_unset : (deviceWrite dev idx v s).unset = s.unset := by
  unfold deviceWrite; split <;> simp [applyEffect, setBank]

@[simp] theorem deviceWrite_ram : (deviceWrite dev idx v s).ram = s.ram := by
  unfold deviceWrite; split <;> simp [applyEffect, setBank]

end

@[simp] theorem busWrite_a : (busWrite addr v s).a = s.a := by
  unfold busWrite; split <;> simp

@[simp] theorem busWrite_x : (busWrite addr v s).x = s.x := by
  unfold busWrite; split <;> simp

@[simp] theorem busWrite_y : (busWrite addr v s).y = s.y := by
  unfold busWrite; split <;> simp

@[simp] theorem busWrite_sp : (busWrite addr v s).sp = s.sp := by
  unfold busWrite; split <;> simp

@[simp] theorem busWrite_pc : (busWrite addr v s).pc = s.pc := by
  unfold busWrite; split <;> simp

@[simp] theorem busWrite_flags : (busWrite addr v s).flags = s.flags := by
  unfold busWrite; split <;> simp

@[simp] theorem busWrite_halted : (busWrite addr v s).halted = s.halted := by
  unfold busWrite; split <;> simp

@[simp] theorem busWrite_cycles : (busWrite addr v s).cycles = s.cycles := by
  unfold busWrite; split <;> simp

@[simp] theorem busWrite_osRom : (busWrite addr v s).osRom = s.osRom := by
  unfold busWrite; split <;> simp

@[simp] theorem busWrite_basicRom : (busWrite addr v s).basicRom = s.basicRom := by
  unfold busWrite; split <;> simp

@[simp] theorem busWrite_chipWindows : (busWrite addr v s).chipWindows = s.chipWindows := by
  unfold busWrite; split <;> simp

@[simp] theorem busWrite_wsyncReg : (busWrite addr v s).wsyncReg = s.wsyncReg := by
  unfold busWrite; split <;> simp

@[simp] theorem busWrite_unset : (busWrite addr v s).unset = s.unset := by
  unfold busWrite; split <;> simp

/-- A bus write changes no cell of RAM but the one at its address. -/
theorem busWrite_ram_read {s : State} (h : s.ram.wf = true) {b : Nat} (hb : b ≠ addr.toNat) :
    (busWrite addr v s).ram.read b = s.ram.read b := by
  rcases busWrite_cases s addr v with ⟨-, h'⟩ | ⟨-, h'⟩ | ⟨_, _, -, h'⟩ <;> rw [h'] <;>
    simp [Memory.read_write_other h, hb]

/-- A bus write keeps the canonical form of RAM. -/
theorem busWrite_ram_wf {s : State} (h : s.ram.wf = true) : (busWrite addr v s).ram.wf = true := by
  rcases busWrite_cases s addr v with ⟨-, h'⟩ | ⟨-, h'⟩ | ⟨_, _, -, h'⟩ <;> rw [h'] <;> simp [Memory.write_wf, h]

/-- A bus write keeps RAM inside the address space. -/
theorem busWrite_ram_within {s : State} (h : s.ram.within 65536 = true) :
    (busWrite addr v s).ram.within 65536 = true := by
  have := addr.isLt
  rcases busWrite_cases s addr v with ⟨-, h'⟩ | ⟨-, h'⟩ | ⟨_, _, -, h'⟩ <;> rw [h'] <;> simp [h]
  exact Memory.write_within h (by omega) v

end Sys2Proof.Machine
end

