-- ==== Sys2Proof/Laws/Exec.lean ====
section
/-! SUPPORT. Every instruction's meaning in the terms of its row: which effect its mnemonic has, run on its operand at its
opcode. A proof about one mnemonic in all its modes cites these instead of the meanings. -/

namespace Sys2Proof.Machine

/-- The effect of an instruction that reads a byte. -/
def readEffect : Mnemonic → Option (Byte → State → State)
  | .LDA => some writeA
  | .LDX => some writeX
  | .LDY => some writeY
  | .ADC => some addToA
  | .SBC => some subtractFromA
  | .AND => some andToA
  | .ORA => some orToA
  | .EOR => some eorToA
  | .CMP => some compareA
  | .CPX => some compareX
  | .CPY => some compareY
  | .BIT => some bitTest
  | _ => none

/-- The register a store writes to memory. -/
def storeSource : Mnemonic → Option (State → Byte)
  | .STA => some State.a
  | .STX => some State.x
  | .STY => some State.y
  | _ => none

/-- The effect of a read-modify-write instruction. -/
def modifyEffect : Mnemonic → Option (Byte → Flags → AluResult)
  | .ASL => some asl
  | .LSR => some lsr
  | .ROL => some rol
  | .ROR => some ror
  | .INC => some increment
  | .DEC => some decrement
  | _ => none

theorem exec_eq_runImm {i : Instr} {v : Byte} {f : Byte → State → State} (hf : readEffect i.mnemonic = some f)
    (ho : i.operand = .imm v) (s : State) : exec i s = runImm i.opcode v f s := by
  cases i <;> cases ho <;> cases hf <;> rfl

theorem exec_eq_runRead {i : Instr} {m : MemOperand} {f : Byte → State → State} (hf : readEffect i.mnemonic = some f)
    (ho : i.operand = .mem m) (s : State) : exec i s = runRead i.opcode m f s := by
  cases i <;> cases ho <;> cases hf <;> rfl

theorem exec_eq_runStore {i : Instr} {m : MemOperand} {src : State → Byte} (hf : storeSource i.mnemonic = some src)
    (ho : i.operand = .mem m) (s : State) : exec i s = runStore i.opcode m src s := by
  cases i <;> cases ho <;> cases hf <;> rfl

theorem exec_eq_runModifyAcc {i : Instr} {f : Byte → Flags → AluResult} (hf : modifyEffect i.mnemonic = some f)
    (ho : i.operand = .acc) (s : State) : exec i s = runModifyAcc i.opcode f s := by
  cases i <;> cases ho <;> cases hf <;> rfl

theorem exec_eq_runModify {i : Instr} {m : MemOperand} {f : Byte → Flags → AluResult}
    (hf : modifyEffect i.mnemonic = some f) (ho : i.operand = .mem m) (s : State) :
    exec i s = runModify i.opcode m f s := by
  cases i <;> cases ho <;> cases hf <;> rfl

/-- A row without a penalty costs its base cycles. -/
theorem cost_of_fixed {e : Entry} (h : e.pageCrossPenalty = false) (cross : Bool) : cost e cross false = e.cycles := by
  simp [cost, h]

/-- The operand of an instruction that reads a byte is an immediate value or a memory operand. -/
theorem operand_of_readEffect {i : Instr} {f : Byte → State → State} (hf : readEffect i.mnemonic = some f) :
    (∃ v, i.operand = .imm v) ∨ ∃ m, i.operand = .mem m := by
  cases i <;> first | exact .inl ⟨_, rfl⟩ | exact .inr ⟨_, rfl⟩ | cases hf

/-- No row with an immediate operand takes a penalty. -/
theorem pageCrossPenalty_of_imm : ∀ op : Byte, (entry op).mode = .imm → (entry op).pageCrossPenalty = false := by
  apply forall_byte
  decide +kernel

/-- The result of an instruction that reads a byte: its effect on the byte loaded, at the cost of the load. -/
theorem exec_of_readEffect {i : Instr} {f : Byte → State → State} (hf : readEffect i.mnemonic = some f) (s : State) :
    ∃ l, loaded i s = some l ∧ exec i s = .next (charge l.cycles (f l.val l.st)) := by
  rcases operand_of_readEffect hf with ⟨v, hv⟩ | ⟨m, hm⟩
  · have hmode : (entry i.opcode).mode = .imm := by
      cases i <;> cases hv <;> cases hf <;> (simp only [Instr.opcode]; rfl)
    refine ⟨⟨v, (entry i.opcode).cycles, s⟩, by unfold loaded; rw [hv], ?_⟩
    rw [exec_eq_runImm hf hv, runImm, cost_of_fixed (pageCrossPenalty_of_imm _ hmode)]
  · refine ⟨_, by unfold loaded; rw [hm], ?_⟩
    rw [exec_eq_runRead hf hm, runRead]

/-- `SetNZ` in the terms of the statements. -/
theorem setNZ_eq_nz (f : Flags) (v : Byte) : f.setNZ v = nz f v := by
  have hn : v.getLsbD 7 = decide (0x80 ≤ v.toNat) := by
    revert v
    apply forall_byte
    decide +kernel
  have hz : (v == 0) = decide (v = 0) := rfl
  simp only [Flags.setNZ, nz, hn, hz]

/-- The opcodes of STA, STX and STY (R183-R185). -/
def storeOpcodes : List Byte :=
  [0x85, 0x95, 0x8D, 0x9D, 0x99, 0x81, 0x91, 0x86, 0x96, 0x8E, 0x84, 0x94, 0x8C]

/-- The operand of a store is a memory operand, and no row of it takes a penalty. -/
theorem operand_of_storeSource {i : Instr} {src : State → Byte} (hf : storeSource i.mnemonic = some src) :
    (∃ m, i.operand = .mem m) ∧ ∀ cross, cost (entry i.opcode) cross false = (entry i.opcode).cycles := by
  have h : ∀ op ∈ storeOpcodes, (entry op).pageCrossPenalty = false := by decide
  have hi : i.opcode ∈ storeOpcodes := by cases i <;> first | (cases hf; done) | simp [Instr.opcode, storeOpcodes]
  exact ⟨by cases i <;> first | (cases hf; done) | exact ⟨_, rfl⟩, cost_of_fixed (h _ hi)⟩

/-- The operand of a read-modify-write instruction is A or a memory operand. -/
theorem operand_of_modifyEffect {i : Instr} {f : Byte → Flags → AluResult} (hf : modifyEffect i.mnemonic = some f) :
    i.operand = .acc ∨ ∃ m, i.operand = .mem m := by
  cases i <;> first | exact .inl rfl | exact .inr ⟨_, rfl⟩ | cases hf

end Sys2Proof.Machine
end

