-- ==== Sys2Proof/Laws/PerInstr.lean ====
section
/-! SUPPORT. What the table says of every instruction, one lemma per constructor. -/

/-- The table's entry for the instruction's opcode has its mnemonic and its operand's mode, and gives its length (R101,
R104). -/
def Sys2Proof.Laws.TableRow.Statement (i : Sys2Proof.Instr) : Prop :=
  i.wf = true →
    (Sys2Proof.entry i.opcode).mnemonic = i.mnemonic ∧ (Sys2Proof.entry i.opcode).mode = i.operand.mode ∧
      (Sys2Proof.encode i).length = 1 + (Sys2Proof.entry i.opcode).mode.operandBytes

namespace Sys2Proof.Laws

theorem tableRow_of {i : Instr} {op : Byte} {e : Entry} (ho : i.opcode = op) (he : entry op = e)
    (hn : e.mnemonic = i.mnemonic) (hm : e.mode = i.operand.mode)
    (hl : i.operand.bytes.length = e.mode.operandBytes) : TableRow.Statement i := by
  subst ho he
  exact fun _ => ⟨hn, hm, by simp [encode, hl, Nat.add_comm]⟩

theorem TableRow.ldaImm (v : Byte) : TableRow.Statement (.ldaImm v) :=
  tableRow_of (op := 0xA9) rfl rfl rfl rfl rfl
theorem TableRow.ldaZp (z : Byte) : TableRow.Statement (.ldaZp z) :=
  tableRow_of (op := 0xA5) rfl rfl rfl rfl rfl
theorem TableRow.ldaZpx (z : Byte) : TableRow.Statement (.ldaZpx z) :=
  tableRow_of (op := 0xB5) rfl rfl rfl rfl rfl
theorem TableRow.ldaAbs (a : Word) : TableRow.Statement (.ldaAbs a) :=
  tableRow_of (op := 0xAD) rfl rfl rfl rfl rfl
theorem TableRow.ldaAbsx (a : Word) : TableRow.Statement (.ldaAbsx a) :=
  tableRow_of (op := 0xBD) rfl rfl rfl rfl rfl
theorem TableRow.ldaAbsy (a : Word) : TableRow.Statement (.ldaAbsy a) :=
  tableRow_of (op := 0xB9) rfl rfl rfl rfl rfl
theorem TableRow.ldaIndx (z : Byte) : TableRow.Statement (.ldaIndx z) :=
  tableRow_of (op := 0xA1) rfl rfl rfl rfl rfl
theorem TableRow.ldaIndy (z : Byte) : TableRow.Statement (.ldaIndy z) :=
  tableRow_of (op := 0xB1) rfl rfl rfl rfl rfl
theorem TableRow.ldxImm (v : Byte) : TableRow.Statement (.ldxImm v) :=
  tableRow_of (op := 0xA2) rfl rfl rfl rfl rfl
theorem TableRow.ldxZp (z : Byte) : TableRow.Statement (.ldxZp z) :=
  tableRow_of (op := 0xA6) rfl rfl rfl rfl rfl
theorem TableRow.ldxZpy (z : Byte) : TableRow.Statement (.ldxZpy z) :=
  tableRow_of (op := 0xB6) rfl rfl rfl rfl rfl
theorem TableRow.ldxAbs (a : Word) : TableRow.Statement (.ldxAbs a) :=
  tableRow_of (op := 0xAE) rfl rfl rfl rfl rfl
theorem TableRow.ldxAbsy (a : Word) : TableRow.Statement (.ldxAbsy a) :=
  tableRow_of (op := 0xBE) rfl rfl rfl rfl rfl
theorem TableRow.ldyImm (v : Byte) : TableRow.Statement (.ldyImm v) :=
  tableRow_of (op := 0xA0) rfl rfl rfl rfl rfl
theorem TableRow.ldyZp (z : Byte) : TableRow.Statement (.ldyZp z) :=
  tableRow_of (op := 0xA4) rfl rfl rfl rfl rfl
theorem TableRow.ldyZpx (z : Byte) : TableRow.Statement (.ldyZpx z) :=
  tableRow_of (op := 0xB4) rfl rfl rfl rfl rfl
theorem TableRow.ldyAbs (a : Word) : TableRow.Statement (.ldyAbs a) :=
  tableRow_of (op := 0xAC) rfl rfl rfl rfl rfl
theorem TableRow.ldyAbsx (a : Word) : TableRow.Statement (.ldyAbsx a) :=
  tableRow_of (op := 0xBC) rfl rfl rfl rfl rfl
theorem TableRow.staZp (z : Byte) : TableRow.Statement (.staZp z) :=
  tableRow_of (op := 0x85) rfl rfl rfl rfl rfl
theorem TableRow.staZpx (z : Byte) : TableRow.Statement (.staZpx z) :=
  tableRow_of (op := 0x95) rfl rfl rfl rfl rfl
theorem TableRow.staAbs (a : Word) : TableRow.Statement (.staAbs a) :=
  tableRow_of (op := 0x8D) rfl rfl rfl rfl rfl
theorem TableRow.staAbsx (a : Word) : TableRow.Statement (.staAbsx a) :=
  tableRow_of (op := 0x9D) rfl rfl rfl rfl rfl
theorem TableRow.staAbsy (a : Word) : TableRow.Statement (.staAbsy a) :=
  tableRow_of (op := 0x99) rfl rfl rfl rfl rfl
theorem TableRow.staIndx (z : Byte) : TableRow.Statement (.staIndx z) :=
  tableRow_of (op := 0x81) rfl rfl rfl rfl rfl
theorem TableRow.staIndy (z : Byte) : TableRow.Statement (.staIndy z) :=
  tableRow_of (op := 0x91) rfl rfl rfl rfl rfl
theorem TableRow.stxZp (z : Byte) : TableRow.Statement (.stxZp z) :=
  tableRow_of (op := 0x86) rfl rfl rfl rfl rfl
theorem TableRow.stxZpy (z : Byte) : TableRow.Statement (.stxZpy z) :=
  tableRow_of (op := 0x96) rfl rfl rfl rfl rfl
theorem TableRow.stxAbs (a : Word) : TableRow.Statement (.stxAbs a) :=
  tableRow_of (op := 0x8E) rfl rfl rfl rfl rfl
theorem TableRow.styZp (z : Byte) : TableRow.Statement (.styZp z) :=
  tableRow_of (op := 0x84) rfl rfl rfl rfl rfl
theorem TableRow.styZpx (z : Byte) : TableRow.Statement (.styZpx z) :=
  tableRow_of (op := 0x94) rfl rfl rfl rfl rfl
theorem TableRow.styAbs (a : Word) : TableRow.Statement (.styAbs a) :=
  tableRow_of (op := 0x8C) rfl rfl rfl rfl rfl
theorem TableRow.tax : TableRow.Statement (.tax) :=
  tableRow_of (op := 0xAA) rfl rfl rfl rfl rfl
theorem TableRow.tay : TableRow.Statement (.tay) :=
  tableRow_of (op := 0xA8) rfl rfl rfl rfl rfl
theorem TableRow.txa : TableRow.Statement (.txa) :=
  tableRow_of (op := 0x8A) rfl rfl rfl rfl rfl
theorem TableRow.tya : TableRow.Statement (.tya) :=
  tableRow_of (op := 0x98) rfl rfl rfl rfl rfl
theorem TableRow.tsx : TableRow.Statement (.tsx) :=
  tableRow_of (op := 0xBA) rfl rfl rfl rfl rfl
theorem TableRow.txs : TableRow.Statement (.txs) :=
  tableRow_of (op := 0x9A) rfl rfl rfl rfl rfl
theorem TableRow.adcImm (v : Byte) : TableRow.Statement (.adcImm v) :=
  tableRow_of (op := 0x69) rfl rfl rfl rfl rfl
theorem TableRow.adcZp (z : Byte) : TableRow.Statement (.adcZp z) :=
  tableRow_of (op := 0x65) rfl rfl rfl rfl rfl
theorem TableRow.adcZpx (z : Byte) : TableRow.Statement (.adcZpx z) :=
  tableRow_of (op := 0x75) rfl rfl rfl rfl rfl
theorem TableRow.adcAbs (a : Word) : TableRow.Statement (.adcAbs a) :=
  tableRow_of (op := 0x6D) rfl rfl rfl rfl rfl
theorem TableRow.adcAbsx (a : Word) : TableRow.Statement (.adcAbsx a) :=
  tableRow_of (op := 0x7D) rfl rfl rfl rfl rfl
theorem TableRow.adcAbsy (a : Word) : TableRow.Statement (.adcAbsy a) :=
  tableRow_of (op := 0x79) rfl rfl rfl rfl rfl
theorem TableRow.adcIndx (z : Byte) : TableRow.Statement (.adcIndx z) :=
  tableRow_of (op := 0x61) rfl rfl rfl rfl rfl
theorem TableRow.adcIndy (z : Byte) : TableRow.Statement (.adcIndy z) :=
  tableRow_of (op := 0x71) rfl rfl rfl rfl rfl
theorem TableRow.sbcImm (v : Byte) : TableRow.Statement (.sbcImm v) :=
  tableRow_of (op := 0xE9) rfl rfl rfl rfl rfl
theorem TableRow.sbcZp (z : Byte) : TableRow.Statement (.sbcZp z) :=
  tableRow_of (op := 0xE5) rfl rfl rfl rfl rfl
theorem TableRow.sbcZpx (z : Byte) : TableRow.Statement (.sbcZpx z) :=
  tableRow_of (op := 0xF5) rfl rfl rfl rfl rfl
theorem TableRow.sbcAbs (a : Word) : TableRow.Statement (.sbcAbs a) :=
  tableRow_of (op := 0xED) rfl rfl rfl rfl rfl
theorem TableRow.sbcAbsx (a : Word) : TableRow.Statement (.sbcAbsx a) :=
  tableRow_of (op := 0xFD) rfl rfl rfl rfl rfl
theorem TableRow.sbcAbsy (a : Word) : TableRow.Statement (.sbcAbsy a) :=
  tableRow_of (op := 0xF9) rfl rfl rfl rfl rfl
theorem TableRow.sbcIndx (z : Byte) : TableRow.Statement (.sbcIndx z) :=
  tableRow_of (op := 0xE1) rfl rfl rfl rfl rfl
theorem TableRow.sbcIndy (z : Byte) : TableRow.Statement (.sbcIndy z) :=
  tableRow_of (op := 0xF1) rfl rfl rfl rfl rfl
theorem TableRow.andImm (v : Byte) : TableRow.Statement (.andImm v) :=
  tableRow_of (op := 0x29) rfl rfl rfl rfl rfl
theorem TableRow.andZp (z : Byte) : TableRow.Statement (.andZp z) :=
  tableRow_of (op := 0x25) rfl rfl rfl rfl rfl
theorem TableRow.andZpx (z : Byte) : TableRow.Statement (.andZpx z) :=
  tableRow_of (op := 0x35) rfl rfl rfl rfl rfl
theorem TableRow.andAbs (a : Word) : TableRow.Statement (.andAbs a) :=
  tableRow_of (op := 0x2D) rfl rfl rfl rfl rfl
theorem TableRow.andAbsx (a : Word) : TableRow.Statement (.andAbsx a) :=
  tableRow_of (op := 0x3D) rfl rfl rfl rfl rfl
theorem TableRow.andAbsy (a : Word) : TableRow.Statement (.andAbsy a) :=
  tableRow_of (op := 0x39) rfl rfl rfl rfl rfl
theorem TableRow.andIndx (z : Byte) : TableRow.Statement (.andIndx z) :=
  tableRow_of (op := 0x21) rfl rfl rfl rfl rfl
theorem TableRow.andIndy (z : Byte) : TableRow.Statement (.andIndy z) :=
  tableRow_of (op := 0x31) rfl rfl rfl rfl rfl
theorem TableRow.oraImm (v : Byte) : TableRow.Statement (.oraImm v) :=
  tableRow_of (op := 0x09) rfl rfl rfl rfl rfl
theorem TableRow.oraZp (z : Byte) : TableRow.Statement (.oraZp z) :=
  tableRow_of (op := 0x05) rfl rfl rfl rfl rfl
theorem TableRow.oraZpx (z : Byte) : TableRow.Statement (.oraZpx z) :=
  tableRow_of (op := 0x15) rfl rfl rfl rfl rfl
theorem TableRow.oraAbs (a : Word) : TableRow.Statement (.oraAbs a) :=
  tableRow_of (op := 0x0D) rfl rfl rfl rfl rfl
theorem TableRow.oraAbsx (a : Word) : TableRow.Statement (.oraAbsx a) :=
  tableRow_of (op := 0x1D) rfl rfl rfl rfl rfl
theorem TableRow.oraAbsy (a : Word) : TableRow.Statement (.oraAbsy a) :=
  tableRow_of (op := 0x19) rfl rfl rfl rfl rfl
theorem TableRow.oraIndx (z : Byte) : TableRow.Statement (.oraIndx z) :=
  tableRow_of (op := 0x01) rfl rfl rfl rfl rfl
theorem TableRow.oraIndy (z : Byte) : TableRow.Statement (.oraIndy z) :=
  tableRow_of (op := 0x11) rfl rfl rfl rfl rfl
theorem TableRow.eorImm (v : Byte) : TableRow.Statement (.eorImm v) :=
  tableRow_of (op := 0x49) rfl rfl rfl rfl rfl
theorem TableRow.eorZp (z : Byte) : TableRow.Statement (.eorZp z) :=
  tableRow_of (op := 0x45) rfl rfl rfl rfl rfl
theorem TableRow.eorZpx (z : Byte) : TableRow.Statement (.eorZpx z) :=
  tableRow_of (op := 0x55) rfl rfl rfl rfl rfl
theorem TableRow.eorAbs (a : Word) : TableRow.Statement (.eorAbs a) :=
  tableRow_of (op := 0x4D) rfl rfl rfl rfl rfl
theorem TableRow.eorAbsx (a : Word) : TableRow.Statement (.eorAbsx a) :=
  tableRow_of (op := 0x5D) rfl rfl rfl rfl rfl
theorem TableRow.eorAbsy (a : Word) : TableRow.Statement (.eorAbsy a) :=
  tableRow_of (op := 0x59) rfl rfl rfl rfl rfl
theorem TableRow.eorIndx (z : Byte) : TableRow.Statement (.eorIndx z) :=
  tableRow_of (op := 0x41) rfl rfl rfl rfl rfl
theorem TableRow.eorIndy (z : Byte) : TableRow.Statement (.eorIndy z) :=
  tableRow_of (op := 0x51) rfl rfl rfl rfl rfl
theorem TableRow.cmpImm (v : Byte) : TableRow.Statement (.cmpImm v) :=
  tableRow_of (op := 0xC9) rfl rfl rfl rfl rfl
theorem TableRow.cmpZp (z : Byte) : TableRow.Statement (.cmpZp z) :=
  tableRow_of (op := 0xC5) rfl rfl rfl rfl rfl
theorem TableRow.cmpZpx (z : Byte) : TableRow.Statement (.cmpZpx z) :=
  tableRow_of (op := 0xD5) rfl rfl rfl rfl rfl
theorem TableRow.cmpAbs (a : Word) : TableRow.Statement (.cmpAbs a) :=
  tableRow_of (op := 0xCD) rfl rfl rfl rfl rfl
theorem TableRow.cmpAbsx (a : Word) : TableRow.Statement (.cmpAbsx a) :=
  tableRow_of (op := 0xDD) rfl rfl rfl rfl rfl
theorem TableRow.cmpAbsy (a : Word) : TableRow.Statement (.cmpAbsy a) :=
  tableRow_of (op := 0xD9) rfl rfl rfl rfl rfl
theorem TableRow.cmpIndx (z : Byte) : TableRow.Statement (.cmpIndx z) :=
  tableRow_of (op := 0xC1) rfl rfl rfl rfl rfl
theorem TableRow.cmpIndy (z : Byte) : TableRow.Statement (.cmpIndy z) :=
  tableRow_of (op := 0xD1) rfl rfl rfl rfl rfl
theorem TableRow.cpxImm (v : Byte) : TableRow.Statement (.cpxImm v) :=
  tableRow_of (op := 0xE0) rfl rfl rfl rfl rfl
theorem TableRow.cpxZp (z : Byte) : TableRow.Statement (.cpxZp z) :=
  tableRow_of (op := 0xE4) rfl rfl rfl rfl rfl
theorem TableRow.cpxAbs (a : Word) : TableRow.Statement (.cpxAbs a) :=
  tableRow_of (op := 0xEC) rfl rfl rfl rfl rfl
theorem TableRow.cpyImm (v : Byte) : TableRow.Statement (.cpyImm v) :=
  tableRow_of (op := 0xC0) rfl rfl rfl rfl rfl
theorem TableRow.cpyZp (z : Byte) : TableRow.Statement (.cpyZp z) :=
  tableRow_of (op := 0xC4) rfl rfl rfl rfl rfl
theorem TableRow.cpyAbs (a : Word) : TableRow.Statement (.cpyAbs a) :=
  tableRow_of (op := 0xCC) rfl rfl rfl rfl rfl
theorem TableRow.bitZp (z : Byte) : TableRow.Statement (.bitZp z) :=
  tableRow_of (op := 0x24) rfl rfl rfl rfl rfl
theorem TableRow.bitAbs (a : Word) : TableRow.Statement (.bitAbs a) :=
  tableRow_of (op := 0x2C) rfl rfl rfl rfl rfl
theorem TableRow.aslAcc : TableRow.Statement (.aslAcc) :=
  tableRow_of (op := 0x0A) rfl rfl rfl rfl rfl
theorem TableRow.aslZp (z : Byte) : TableRow.Statement (.aslZp z) :=
  tableRow_of (op := 0x06) rfl rfl rfl rfl rfl
theorem TableRow.aslZpx (z : Byte) : TableRow.Statement (.aslZpx z) :=
  tableRow_of (op := 0x16) rfl rfl rfl rfl rfl
theorem TableRow.aslAbs (a : Word) : TableRow.Statement (.aslAbs a) :=
  tableRow_of (op := 0x0E) rfl rfl rfl rfl rfl
theorem TableRow.aslAbsx (a : Word) : TableRow.Statement (.aslAbsx a) :=
  tableRow_of (op := 0x1E) rfl rfl rfl rfl rfl
theorem TableRow.lsrAcc : TableRow.Statement (.lsrAcc) :=
  tableRow_of (op := 0x4A) rfl rfl rfl rfl rfl
theorem TableRow.lsrZp (z : Byte) : TableRow.Statement (.lsrZp z) :=
  tableRow_of (op := 0x46) rfl rfl rfl rfl rfl
theorem TableRow.lsrZpx (z : Byte) : TableRow.Statement (.lsrZpx z) :=
  tableRow_of (op := 0x56) rfl rfl rfl rfl rfl
theorem TableRow.lsrAbs (a : Word) : TableRow.Statement (.lsrAbs a) :=
  tableRow_of (op := 0x4E) rfl rfl rfl rfl rfl
theorem TableRow.lsrAbsx (a : Word) : TableRow.Statement (.lsrAbsx a) :=
  tableRow_of (op := 0x5E) rfl rfl rfl rfl rfl
theorem TableRow.rolAcc : TableRow.Statement (.rolAcc) :=
  tableRow_of (op := 0x2A) rfl rfl rfl rfl rfl
theorem TableRow.rolZp (z : Byte) : TableRow.Statement (.rolZp z) :=
  tableRow_of (op := 0x26) rfl rfl rfl rfl rfl
theorem TableRow.rolZpx (z : Byte) : TableRow.Statement (.rolZpx z) :=
  tableRow_of (op := 0x36) rfl rfl rfl rfl rfl
theorem TableRow.rolAbs (a : Word) : TableRow.Statement (.rolAbs a) :=
  tableRow_of (op := 0x2E) rfl rfl rfl rfl rfl
theorem TableRow.rolAbsx (a : Word) : TableRow.Statement (.rolAbsx a) :=
  tableRow_of (op := 0x3E) rfl rfl rfl rfl rfl
theorem TableRow.rorAcc : TableRow.Statement (.rorAcc) :=
  tableRow_of (op := 0x6A) rfl rfl rfl rfl rfl
theorem TableRow.rorZp (z : Byte) : TableRow.Statement (.rorZp z) :=
  tableRow_of (op := 0x66) rfl rfl rfl rfl rfl
theorem TableRow.rorZpx (z : Byte) : TableRow.Statement (.rorZpx z) :=
  tableRow_of (op := 0x76) rfl rfl rfl rfl rfl
theorem TableRow.rorAbs (a : Word) : TableRow.Statement (.rorAbs a) :=
  tableRow_of (op := 0x6E) rfl rfl rfl rfl rfl
theorem TableRow.rorAbsx (a : Word) : TableRow.Statement (.rorAbsx a) :=
  tableRow_of (op := 0x7E) rfl rfl rfl rfl rfl
theorem TableRow.incZp (z : Byte) : TableRow.Statement (.incZp z) :=
  tableRow_of (op := 0xE6) rfl rfl rfl rfl rfl
theorem TableRow.incZpx (z : Byte) : TableRow.Statement (.incZpx z) :=
  tableRow_of (op := 0xF6) rfl rfl rfl rfl rfl
theorem TableRow.incAbs (a : Word) : TableRow.Statement (.incAbs a) :=
  tableRow_of (op := 0xEE) rfl rfl rfl rfl rfl
theorem TableRow.incAbsx (a : Word) : TableRow.Statement (.incAbsx a) :=
  tableRow_of (op := 0xFE) rfl rfl rfl rfl rfl
theorem TableRow.decZp (z : Byte) : TableRow.Statement (.decZp z) :=
  tableRow_of (op := 0xC6) rfl rfl rfl rfl rfl
theorem TableRow.decZpx (z : Byte) : TableRow.Statement (.decZpx z) :=
  tableRow_of (op := 0xD6) rfl rfl rfl rfl rfl
theorem TableRow.decAbs (a : Word) : TableRow.Statement (.decAbs a) :=
  tableRow_of (op := 0xCE) rfl rfl rfl rfl rfl
theorem TableRow.decAbsx (a : Word) : TableRow.Statement (.decAbsx a) :=
  tableRow_of (op := 0xDE) rfl rfl rfl rfl rfl
theorem TableRow.inx : TableRow.Statement (.inx) :=
  tableRow_of (op := 0xE8) rfl rfl rfl rfl rfl
theorem TableRow.iny : TableRow.Statement (.iny) :=
  tableRow_of (op := 0xC8) rfl rfl rfl rfl rfl
theorem TableRow.dex : TableRow.Statement (.dex) :=
  tableRow_of (op := 0xCA) rfl rfl rfl rfl rfl
theorem TableRow.dey : TableRow.Statement (.dey) :=
  tableRow_of (op := 0x88) rfl rfl rfl rfl rfl
theorem TableRow.bcc (d : Byte) : TableRow.Statement (.bcc d) :=
  tableRow_of (op := 0x90) rfl rfl rfl rfl rfl
theorem TableRow.bcs (d : Byte) : TableRow.Statement (.bcs d) :=
  tableRow_of (op := 0xB0) rfl rfl rfl rfl rfl
theorem TableRow.beq (d : Byte) : TableRow.Statement (.beq d) :=
  tableRow_of (op := 0xF0) rfl rfl rfl rfl rfl
theorem TableRow.bne (d : Byte) : TableRow.Statement (.bne d) :=
  tableRow_of (op := 0xD0) rfl rfl rfl rfl rfl
theorem TableRow.bmi (d : Byte) : TableRow.Statement (.bmi d) :=
  tableRow_of (op := 0x30) rfl rfl rfl rfl rfl
theorem TableRow.bpl (d : Byte) : TableRow.Statement (.bpl d) :=
  tableRow_of (op := 0x10) rfl rfl rfl rfl rfl
theorem TableRow.bvc (d : Byte) : TableRow.Statement (.bvc d) :=
  tableRow_of (op := 0x50) rfl rfl rfl rfl rfl
theorem TableRow.bvs (d : Byte) : TableRow.Statement (.bvs d) :=
  tableRow_of (op := 0x70) rfl rfl rfl rfl rfl
theorem TableRow.jmpAbs (a : Word) : TableRow.Statement (.jmpAbs a) :=
  tableRow_of (op := 0x4C) rfl rfl rfl rfl rfl
theorem TableRow.jmpInd (p : Word) : TableRow.Statement (.jmpInd p) :=
  tableRow_of (op := 0x6C) rfl rfl rfl rfl rfl
theorem TableRow.jsr (a : Word) : TableRow.Statement (.jsr a) :=
  tableRow_of (op := 0x20) rfl rfl rfl rfl rfl
theorem TableRow.rts : TableRow.Statement (.rts) :=
  tableRow_of (op := 0x60) rfl rfl rfl rfl rfl
theorem TableRow.pha : TableRow.Statement (.pha) :=
  tableRow_of (op := 0x48) rfl rfl rfl rfl rfl
theorem TableRow.php : TableRow.Statement (.php) :=
  tableRow_of (op := 0x08) rfl rfl rfl rfl rfl
theorem TableRow.pla : TableRow.Statement (.pla) :=
  tableRow_of (op := 0x68) rfl rfl rfl rfl rfl
theorem TableRow.plp : TableRow.Statement (.plp) :=
  tableRow_of (op := 0x28) rfl rfl rfl rfl rfl
theorem TableRow.brk : TableRow.Statement (.brk) :=
  tableRow_of (op := 0x00) rfl rfl rfl rfl rfl
theorem TableRow.rti : TableRow.Statement (.rti) :=
  tableRow_of (op := 0x40) rfl rfl rfl rfl rfl
theorem TableRow.clc : TableRow.Statement (.clc) :=
  tableRow_of (op := 0x18) rfl rfl rfl rfl rfl
theorem TableRow.sec : TableRow.Statement (.sec) :=
  tableRow_of (op := 0x38) rfl rfl rfl rfl rfl
theorem TableRow.cli : TableRow.Statement (.cli) :=
  tableRow_of (op := 0x58) rfl rfl rfl rfl rfl
theorem TableRow.sei : TableRow.Statement (.sei) :=
  tableRow_of (op := 0x78) rfl rfl rfl rfl rfl
theorem TableRow.cld : TableRow.Statement (.cld) :=
  tableRow_of (op := 0xD8) rfl rfl rfl rfl rfl
theorem TableRow.sed : TableRow.Statement (.sed) :=
  tableRow_of (op := 0xF8) rfl rfl rfl rfl rfl
theorem TableRow.clv : TableRow.Statement (.clv) :=
  tableRow_of (op := 0xB8) rfl rfl rfl rfl rfl
theorem TableRow.nop : TableRow.Statement (.nop) :=
  tableRow_of (op := 0xEA) rfl rfl rfl rfl rfl

theorem TableRow.ill (opcode : Byte) : TableRow.Statement (.ill opcode) := by
  have h : ∀ op ∈ undocumented, entry op = rowIll := by decide
  intro hw
  have hi := h opcode (List.contains_iff_mem.1 hw)
  simp [Instr.opcode, Instr.mnemonic, Instr.operand, Operand.mode, Operand.bytes, encode, hi, rowIll, Mode.operandBytes]

end Sys2Proof.Laws
end

