-- ==== Sys2Proof/Laws/Stack.lean ====
section
/-! SUPPORT. What the stack operations, interrupt entry and return, the fetch, the step and `set_state` can do to a state, each
said once. -/

namespace Sys2Proof.Machine

/-- In a legal window table no window covers a page below 0xA0. -/
theorem State.windowOf_low {s : State} (h : s.windowsLegal = true) {page : Byte} (hp : page.toNat < 0xA0) :
    s.windowOf page = none := by
  simp only [State.windowsLegal, Bool.and_eq_true, List.all_eq_true, windowLegal, decide_eq_true_eq] at h
  refine List.find?_eq_none.2 fun w hw hc => ?_
  have := (h.1 w hw).1
  rw [beq_iff_eq.1 hc] at this
  omega

theorem toNat_stackAddr (sp : Byte) : (stackAddr sp).toNat = stackCell sp := by
  revert sp
  apply forall_byte
  decide +kernel

/-- The stack page is RAM. -/
theorem State.region_stackAddr {s : State} (h : s.windowsLegal = true) (sp : Byte) :
    s.region (stackAddr sp) = .ram (stackAddr sp) := by
  have hn := toNat_stackAddr sp
  have := sp.isLt
  have hw : s.windowOf (hiByte (stackAddr sp)) = none :=
    State.windowOf_low h (by rw [toNat_hiByte, hn, stackCell]; omega)
  simp only [State.region, hw]
  rw [if_neg (by rw [hn, stackCell]; omega), if_neg (by rw [hn, stackCell]; omega)]

theorem push_spec {s : State} (h : s.windowsLegal = true) (v : Byte) :
    push v s = { s with ram := s.ram.write (stackCell s.sp) v, sp := s.sp - 1 } := by
  simp only [push, busWrite, State.region_stackAddr h, toNat_stackAddr]
  rfl

theorem pull_spec {s : State} (h : s.windowsLegal = true) :
    pull s = ⟨s.ram.read (stackCell (s.sp + 1)), { s with sp := s.sp + 1 }⟩ := by
  have hr : (s.setSp (s.sp + 1)).region (stackAddr (s.sp + 1)) = .ram (stackAddr (s.sp + 1)) := State.region_stackAddr h _
  simp only [pull, busRead, State.setSp_sp, hr, toNat_stackAddr]
  rfl

theorem pushWord_spec {s : State} (h : s.windowsLegal = true) (w : Word) :
    pushWord w s = { s with
      ram := (s.ram.write (stackCell s.sp) (hiByte w)).write (stackCell (s.sp - 1)) (loByte w)
      sp := s.sp - 2 } := by
  have h2 : s.sp - 1 - 1 = s.sp - 2 := by rw [BitVec.sub_sub]; rfl
  rw [pushWord, push_spec h, push_spec (by exact h)]
  simp only [h2]

theorem pullWord_spec {s : State} (h : s.windowsLegal = true) :
    pullWord s = ⟨mkWord (s.ram.read (stackCell (s.sp + 2))) (s.ram.read (stackCell (s.sp + 1))),
      { s with sp := s.sp + 2 }⟩ := by
  have h2 : s.sp + 1 + 1 = s.sp + 2 := by rw [BitVec.add_assoc]; rfl
  simp only [pullWord, pull_spec h]
  rw [pull_spec (by exact h)]
  simp only [h2]

/-- The entry sequence: the state saved, then PC from the vector. -/
theorem takeInterrupt_spec {s : State} (h : s.windowsLegal = true) (ret : Word) (brk : Bool) (vector : Word) :
    ∃ saved : State, saved = { s with
        ram := ((s.ram.write (stackCell s.sp) (hiByte ret)).write (stackCell (s.sp - 1)) (loByte ret)).write
          (stackCell (s.sp - 2)) (s.flags.pack brk)
        sp := s.sp - 3
        flags := { s.flags with i := true } } ∧
      takeInterrupt ret brk vector s = (read16 vector saved).st.setPc (read16 vector saved).val := by
  have h3 : s.sp - 2 - 1 = s.sp - 3 := by rw [BitVec.sub_sub]; rfl
  refine ⟨_, rfl, ?_⟩
  simp only [takeInterrupt, pushWord_spec h]
  rw [push_spec (by exact h)]
  simp only [h3]
  rfl

theorem returnFromInterrupt_spec {s : State} (h : s.windowsLegal = true) :
    returnFromInterrupt s = { s with
      flags := Flags.unpack (s.ram.read (stackCell (s.sp + 1)))
      pc := mkWord (s.ram.read (stackCell (s.sp + 3))) (s.ram.read (stackCell (s.sp + 2)))
      sp := s.sp + 3 } := by
  have h2 : s.sp + 1 + 1 = s.sp + 2 := by rw [BitVec.add_assoc]; rfl
  have h3 : s.sp + 1 + 2 = s.sp + 3 := by rw [BitVec.add_assoc]; rfl
  simp only [returnFromInterrupt, pull_spec h]
  rw [pullWord_spec (by exact h)]
  simp only [State.setFlags, h2, h3]
  rfl

/-- All a fetch can do to the state: move PC up, and the counter of draws. -/
theorem fetchInstr_st (s : State) : ∃ k n, (fetchInstr s).st = (s.setPc (s.pc + k)).setDraws n := by
  obtain ⟨n₀, h₀⟩ := fetchByte_st s
  obtain ⟨n₁, h₁⟩ := fetchByte_st (fetchByte s).st
  obtain ⟨n₂, h₂⟩ := fetchByte_st (fetchByte (fetchByte s).st).st
  have h₁ : (fetchByte (fetchByte s).st).st = (s.setPc (s.pc + 1 + 1)).setDraws n₁ := h₁.trans (by rw [h₀]; rfl)
  have h₂ : (fetchByte (fetchByte (fetchByte s).st).st).st = (s.setPc (s.pc + 1 + 1 + 1)).setDraws n₂ :=
    h₂.trans (by rw [h₁]; rfl)
  simp only [fetchInstr]
  split
  · exact ⟨1, n₀, h₀⟩
  · exact ⟨1 + 1, n₁, h₁.trans (by rw [BitVec.add_assoc])⟩
  · exact ⟨1 + 1 + 1, n₂, h₂.trans (by rw [BitVec.add_assoc, BitVec.add_assoc, ← BitVec.add_assoc 1 1 1])⟩

/-- The step of a state that runs an instruction. -/
theorem step_of_ready {s : State} (h : s.Ready) :
    step s = exec (fetchInstr (serviceInterrupts s)).val (fetchInstr (serviceInterrupts s)).st := by
  simp [step, h.determinate, h.running, h.unstalled]

/-- A boundary with no interrupt due. -/
theorem serviceInterrupts_of_undisturbed {s : State} (h : s.Undisturbed) : serviceInterrupts s = s := by
  obtain ⟨hn, hi | hi⟩ := h <;> simp [serviceInterrupts, hn, hi]

/-! ### `set_state` and the items that are not registers or flags -/

@[simp] theorem State.isDeterminate_iff (s : State) (k : Item) : s.isDeterminate k = true ↔ k ∉ s.unset := by
  simp [State.isDeterminate]

theorem State.namedMayOnlySet_eq (s : State) (k : Item) (old : Bool) (new : Option Bool) :
    s.namedMayOnlySet k old new = if old = true ∧ k ∉ s.unset then true else new.getD old := by
  by_cases hk : k ∈ s.unset <;> cases old <;> simp [State.namedMayOnlySet, State.isDeterminate, hk]

theorem State.namedFirstValue_eq {α : Type} (s : State) (k : Item) (old : α) (new : Option α) :
    s.namedFirstValue k old new = if k ∉ s.unset then old else new.getD old := by
  simp only [State.namedFirstValue, State.isDeterminate_iff]

/-- An item that has a value keeps having one over `set_state`. -/
theorem setState_isDeterminate (p : Patch) {s : State} {k : Item} (h : k ∉ s.unset) : k ∉ (setState p s).unset :=
  fun hm => h (List.mem_filter.1 hm).1

/-- The named cells keep the canonical form of RAM. -/
theorem State.namedCells_wf (s : State) (cells : List (Word × Byte)) {m : Memory} (h : m.wf = true) :
    (s.namedCells cells m).wf = true := by
  induction cells generalizing m with
  | nil => exact h
  | cons e cells ih =>
    refine ih ?_
    split
    · exact h
    · exact Memory.write_wf h _ _

/-- The named cells keep RAM inside the address space. -/
theorem State.namedCells_within (s : State) (cells : List (Word × Byte)) {m : Memory} (h : m.within 65536 = true) :
    (s.namedCells cells m).within 65536 = true := by
  induction cells generalizing m with
  | nil => exact h
  | cons e cells ih =>
    refine ih ?_
    split
    · exact h
    · exact Memory.write_within h e.1.isLt _

/-- A cell reads as before unless it is named and no window covers it. -/
theorem State.namedCells_read_other (s : State) (cells : List (Word × Byte)) {m : Memory} (h : m.wf = true) {a : Nat}
    (ha : ∀ e ∈ cells, s.windowOf (hiByte e.1) = none → e.1.toNat ≠ a) : (s.namedCells cells m).read a = m.read a := by
  induction cells generalizing m with
  | nil => rfl
  | cons e cells ih =>
    have hrest : ∀ e ∈ cells, s.windowOf (hiByte e.1) = none → e.1.toNat ≠ a := fun e he => ha e (List.mem_cons_of_mem _ he)
    cases hw : s.windowOf (hiByte e.1) with
    | none =>
      simp only [State.namedCells, hw, Option.isSome_none, Bool.false_eq_true, if_false]
      rw [ih (Memory.write_wf h _ _) hrest, Memory.read_write_other h _ (Ne.symm (ha e List.mem_cons_self hw))]
    | some w =>
      simp only [State.namedCells, hw, Option.isSome_some, if_true]
      exact ih h hrest

/-- The cells named are written one after the other. -/
theorem State.namedCells_append (s : State) (front back : List (Word × Byte)) (m : Memory) :
    s.namedCells (front ++ back) m = s.namedCells back (s.namedCells front m) := by
  induction front generalizing m with
  | nil => rfl
  | cons e front ih => exact ih _

theorem setState_halted_of_set (p : Patch) {s : State} (h : s.halted = true) (hu : .halted ∉ s.unset) :
    (setState p s).halted = true := by
  simp [setState, State.namedMayOnlySet_eq, h, hu]

theorem setState_nmiPending_of_set (p : Patch) {s : State} (h : s.nmiPending = true) (hu : .nmiPending ∉ s.unset) :
    (setState p s).nmiPending = true := by
  simp [setState, State.namedMayOnlySet_eq, h, hu]

theorem setState_irqPending_of_set (p : Patch) {s : State} (h : s.irqPending = true) (hu : .irqPending ∉ s.unset) :
    (setState p s).irqPending = true := by
  simp [setState, State.namedMayOnlySet_eq, h, hu]

theorem setState_cycles (p : Patch) {s : State} (hu : .cycles ∉ s.unset) : (setState p s).cycles = s.cycles := by
  simp [setState, State.namedFirstValue_eq, hu]

theorem setState_stall (p : Patch) {s : State} (hu : .stall ∉ s.unset) : (setState p s).stall = s.stall := by
  simp [setState, State.namedFirstValue_eq, hu]

end Sys2Proof.Machine
end

