-- ==== Sys2Proof/Tests/Slice0.lean ====
section
/-! SUPPORT. The model's own tests: the form check, the decoding of every constructor, one step on the spec's test vectors
(95_test_vectors.md), the state after reset, and a witness of the hypotheses of every statement that has some. -/

open Sys2Proof Sys2Proof.Machine

namespace Sys2Proof.Tests

/-! ### Well-formedness: the one check, refused on a documented opcode -/

theorem test_wf_refuses_documented_opcode : (Instr.ill 0xEA).wf = false := by decide

theorem test_wf_accepts_undocumented_opcode : (Instr.ill 0x02).wf = true := by decide

/-! ### Decoding: one word per constructor, its opcode from the per-instruction tables of files 42 to 47 -/

theorem test_decode_lda :
    decode [0xA9, 0x81] = .ok (.ldaImm 0x81, []) ∧
    decode [0xA5, 0x9C] = .ok (.ldaZp 0x9C, []) ∧
    decode [0xB5, 0x9C] = .ok (.ldaZpx 0x9C, []) ∧
    decode [0xAD, 0x34, 0x12] = .ok (.ldaAbs 0x1234, []) ∧
    decode [0xBD, 0x34, 0x12] = .ok (.ldaAbsx 0x1234, []) ∧
    decode [0xB9, 0x34, 0x12] = .ok (.ldaAbsy 0x1234, []) ∧
    decode [0xA1, 0x9C] = .ok (.ldaIndx 0x9C, []) ∧
    decode [0xB1, 0x9C] = .ok (.ldaIndy 0x9C, []) :=
  ⟨rfl, rfl, rfl, rfl, rfl, rfl, rfl, rfl⟩

theorem test_decode_ldx :
    decode [0xA2, 0x81] = .ok (.ldxImm 0x81, []) ∧
    decode [0xA6, 0x9C] = .ok (.ldxZp 0x9C, []) ∧
    decode [0xB6, 0x9C] = .ok (.ldxZpy 0x9C, []) ∧
    decode [0xAE, 0x34, 0x12] = .ok (.ldxAbs 0x1234, []) ∧
    decode [0xBE, 0x34, 0x12] = .ok (.ldxAbsy 0x1234, []) :=
  ⟨rfl, rfl, rfl, rfl, rfl⟩

theorem test_decode_ldy :
    decode [0xA0, 0x81] = .ok (.ldyImm 0x81, []) ∧
    decode [0xA4, 0x9C] = .ok (.ldyZp 0x9C, []) ∧
    decode [0xB4, 0x9C] = .ok (.ldyZpx 0x9C, []) ∧
    decode [0xAC, 0x34, 0x12] = .ok (.ldyAbs 0x1234, []) ∧
    decode [0xBC, 0x34, 0x12] = .ok (.ldyAbsx 0x1234, []) :=
  ⟨rfl, rfl, rfl, rfl, rfl⟩

theorem test_decode_sta :
    decode [0x85, 0x9C] = .ok (.staZp 0x9C, []) ∧
    decode [0x95, 0x9C] = .ok (.staZpx 0x9C, []) ∧
    decode [0x8D, 0x34, 0x12] = .ok (.staAbs 0x1234, []) ∧
    decode [0x9D, 0x34, 0x12] = .ok (.staAbsx 0x1234, []) ∧
    decode [0x99, 0x34, 0x12] = .ok (.staAbsy 0x1234, []) ∧
    decode [0x81, 0x9C] = .ok (.staIndx 0x9C, []) ∧
    decode [0x91, 0x9C] = .ok (.staIndy 0x9C, []) :=
  ⟨rfl, rfl, rfl, rfl, rfl, rfl, rfl⟩

theorem test_decode_stx :
    decode [0x86, 0x9C] = .ok (.stxZp 0x9C, []) ∧
    decode [0x96, 0x9C] = .ok (.stxZpy 0x9C, []) ∧
    decode [0x8E, 0x34, 0x12] = .ok (.stxAbs 0x1234, []) :=
  ⟨rfl, rfl, rfl⟩

theorem test_decode_sty :
    decode [0x84, 0x9C] = .ok (.styZp 0x9C, []) ∧
    decode [0x94, 0x9C] = .ok (.styZpx 0x9C, []) ∧
    decode [0x8C, 0x34, 0x12] = .ok (.styAbs 0x1234, []) :=
  ⟨rfl, rfl, rfl⟩

theorem test_decode_loads_stores_transfers :
    decode [0xAA] = .ok (.tax, []) ∧
    decode [0xA8] = .ok (.tay, []) ∧
    decode [0x8A] = .ok (.txa, []) ∧
    decode [0x98] = .ok (.tya, []) ∧
    decode [0xBA] = .ok (.tsx, []) ∧
    decode [0x9A] = .ok (.txs, []) :=
  ⟨rfl, rfl, rfl, rfl, rfl, rfl⟩

theorem test_decode_adc :
    decode [0x69, 0x81] = .ok (.adcImm 0x81, []) ∧
    decode [0x65, 0x9C] = .ok (.adcZp 0x9C, []) ∧
    decode [0x75, 0x9C] = .ok (.adcZpx 0x9C, []) ∧
    decode [0x6D, 0x34, 0x12] = .ok (.adcAbs 0x1234, []) ∧
    decode [0x7D, 0x34, 0x12] = .ok (.adcAbsx 0x1234, []) ∧
    decode [0x79, 0x34, 0x12] = .ok (.adcAbsy 0x1234, []) ∧
    decode [0x61, 0x9C] = .ok (.adcIndx 0x9C, []) ∧
    decode [0x71, 0x9C] = .ok (.adcIndy 0x9C, []) :=
  ⟨rfl, rfl, rfl, rfl, rfl, rfl, rfl, rfl⟩

theorem test_decode_sbc :
    decode [0xE9, 0x81] = .ok (.sbcImm 0x81, []) ∧
    decode [0xE5, 0x9C] = .ok (.sbcZp 0x9C, []) ∧
    decode [0xF5, 0x9C] = .ok (.sbcZpx 0x9C, []) ∧
    decode [0xED, 0x34, 0x12] = .ok (.sbcAbs 0x1234, []) ∧
    decode [0xFD, 0x34, 0x12] = .ok (.sbcAbsx 0x1234, []) ∧
    decode [0xF9, 0x34, 0x12] = .ok (.sbcAbsy 0x1234, []) ∧
    decode [0xE1, 0x9C] = .ok (.sbcIndx 0x9C, []) ∧
    decode [0xF1, 0x9C] = .ok (.sbcIndy 0x9C, []) :=
  ⟨rfl, rfl, rfl, rfl, rfl, rfl, rfl, rfl⟩

theorem test_decode_and :
    decode [0x29, 0x81] = .ok (.andImm 0x81, []) ∧
    decode [0x25, 0x9C] = .ok (.andZp 0x9C, []) ∧
    decode [0x35, 0x9C] = .ok (.andZpx 0x9C, []) ∧
    decode [0x2D, 0x34, 0x12] = .ok (.andAbs 0x1234, []) ∧
    decode [0x3D, 0x34, 0x12] = .ok (.andAbsx 0x1234, []) ∧
    decode [0x39, 0x34, 0x12] = .ok (.andAbsy 0x1234, []) ∧
    decode [0x21, 0x9C] = .ok (.andIndx 0x9C, []) ∧
    decode [0x31, 0x9C] = .ok (.andIndy 0x9C, []) :=
  ⟨rfl, rfl, rfl, rfl, rfl, rfl, rfl, rfl⟩

theorem test_decode_ora :
    decode [0x09, 0x81] = .ok (.oraImm 0x81, []) ∧
    decode [0x05, 0x9C] = .ok (.oraZp 0x9C, []) ∧
    decode [0x15, 0x9C] = .ok (.oraZpx 0x9C, []) ∧
    decode [0x0D, 0x34, 0x12] = .ok (.oraAbs 0x1234, []) ∧
    decode [0x1D, 0x34, 0x12] = .ok (.oraAbsx 0x1234, []) ∧
    decode [0x19, 0x34, 0x12] = .ok (.oraAbsy 0x1234, []) ∧
    decode [0x01, 0x9C] = .ok (.oraIndx 0x9C, []) ∧
    decode [0x11, 0x9C] = .ok (.oraIndy 0x9C, []) :=
  ⟨rfl, rfl, rfl, rfl, rfl, rfl, rfl, rfl⟩

theorem test_decode_eor :
    decode [0x49, 0x81] = .ok (.eorImm 0x81, []) ∧
    decode [0x45, 0x9C] = .ok (.eorZp 0x9C, []) ∧
    decode [0x55, 0x9C] = .ok (.eorZpx 0x9C, []) ∧
    decode [0x4D, 0x34, 0x12] = .ok (.eorAbs 0x1234, []) ∧
    decode [0x5D, 0x34, 0x12] = .ok (.eorAbsx 0x1234, []) ∧
    decode [0x59, 0x34, 0x12] = .ok (.eorAbsy 0x1234, []) ∧
    decode [0x41, 0x9C] = .ok (.eorIndx 0x9C, []) ∧
    decode [0x51, 0x9C] = .ok (.eorIndy 0x9C, []) :=
  ⟨rfl, rfl, rfl, rfl, rfl, rfl, rfl, rfl⟩

theorem test_decode_cmp :
    decode [0xC9, 0x81] = .ok (.cmpImm 0x81, []) ∧
    decode [0xC5, 0x9C] = .ok (.cmpZp 0x9C, []) ∧
    decode [0xD5, 0x9C] = .ok (.cmpZpx 0x9C, []) ∧
    decode [0xCD, 0x34, 0x12] = .ok (.cmpAbs 0x1234, []) ∧
    decode [0xDD, 0x34, 0x12] = .ok (.cmpAbsx 0x1234, []) ∧
    decode [0xD9, 0x34, 0x12] = .ok (.cmpAbsy 0x1234, []) ∧
    decode [0xC1, 0x9C] = .ok (.cmpIndx 0x9C, []) ∧
    decode [0xD1, 0x9C] = .ok (.cmpIndy 0x9C, []) :=
  ⟨rfl, rfl, rfl, rfl, rfl, rfl, rfl, rfl⟩

theorem test_decode_cpx :
    decode [0xE0, 0x81] = .ok (.cpxImm 0x81, []) ∧
    decode [0xE4, 0x9C] = .ok (.cpxZp 0x9C, []) ∧
    decode [0xEC, 0x34, 0x12] = .ok (.cpxAbs 0x1234, []) :=
  ⟨rfl, rfl, rfl⟩

theorem test_decode_cpy :
    decode [0xC0, 0x81] = .ok (.cpyImm 0x81, []) ∧
    decode [0xC4, 0x9C] = .ok (.cpyZp 0x9C, []) ∧
    decode [0xCC, 0x34, 0x12] = .ok (.cpyAbs 0x1234, []) :=
  ⟨rfl, rfl, rfl⟩

theorem test_decode_bit :
    decode [0x24, 0x9C] = .ok (.bitZp 0x9C, []) ∧
    decode [0x2C, 0x34, 0x12] = .ok (.bitAbs 0x1234, []) :=
  ⟨rfl, rfl⟩

theorem test_decode_asl :
    decode [0x0A] = .ok (.aslAcc, []) ∧
    decode [0x06, 0x9C] = .ok (.aslZp 0x9C, []) ∧
    decode [0x16, 0x9C] = .ok (.aslZpx 0x9C, []) ∧
    decode [0x0E, 0x34, 0x12] = .ok (.aslAbs 0x1234, []) ∧
    decode [0x1E, 0x34, 0x12] = .ok (.aslAbsx 0x1234, []) :=
  ⟨rfl, rfl, rfl, rfl, rfl⟩

theorem test_decode_lsr :
    decode [0x4A] = .ok (.lsrAcc, []) ∧
    decode [0x46, 0x9C] = .ok (.lsrZp 0x9C, []) ∧
    decode [0x56, 0x9C] = .ok (.lsrZpx 0x9C, []) ∧
    decode [0x4E, 0x34, 0x12] = .ok (.lsrAbs 0x1234, []) ∧
    decode [0x5E, 0x34, 0x12] = .ok (.lsrAbsx 0x1234, []) :=
  ⟨rfl, rfl, rfl, rfl, rfl⟩

theorem test_decode_rol :
    decode [0x2A] = .ok (.rolAcc, []) ∧
    decode [0x26, 0x9C] = .ok (.rolZp 0x9C, []) ∧
    decode [0x36, 0x9C] = .ok (.rolZpx 0x9C, []) ∧
    decode [0x2E, 0x34, 0x12] = .ok (.rolAbs 0x1234, []) ∧
    decode [0x3E, 0x34, 0x12] = .ok (.rolAbsx 0x1234, []) :=
  ⟨rfl, rfl, rfl, rfl, rfl⟩

theorem test_decode_ror :
    decode [0x6A] = .ok (.rorAcc, []) ∧
    decode [0x66, 0x9C] = .ok (.rorZp 0x9C, []) ∧
    decode [0x76, 0x9C] = .ok (.rorZpx 0x9C, []) ∧
    decode [0x6E, 0x34, 0x12] = .ok (.rorAbs 0x1234, []) ∧
    decode [0x7E, 0x34, 0x12] = .ok (.rorAbsx 0x1234, []) :=
  ⟨rfl, rfl, rfl, rfl, rfl⟩

theorem test_decode_inc :
    decode [0xE6, 0x9C] = .ok (.incZp 0x9C, []) ∧
    decode [0xF6, 0x9C] = .ok (.incZpx 0x9C, []) ∧
    decode [0xEE, 0x34, 0x12] = .ok (.incAbs 0x1234, []) ∧
    decode [0xFE, 0x34, 0x12] = .ok (.incAbsx 0x1234, []) :=
  ⟨rfl, rfl, rfl, rfl⟩

theorem test_decode_dec :
    decode [0xC6, 0x9C] = .ok (.decZp 0x9C, []) ∧
    decode [0xD6, 0x9C] = .ok (.decZpx 0x9C, []) ∧
    decode [0xCE, 0x34, 0x12] = .ok (.decAbs 0x1234, []) ∧
    decode [0xDE, 0x34, 0x12] = .ok (.decAbsx 0x1234, []) :=
  ⟨rfl, rfl, rfl, rfl⟩

theorem test_decode_shifts_increments :
    decode [0xE8] = .ok (.inx, []) ∧
    decode [0xC8] = .ok (.iny, []) ∧
    decode [0xCA] = .ok (.dex, []) ∧
    decode [0x88] = .ok (.dey, []) :=
  ⟨rfl, rfl, rfl, rfl⟩

theorem test_decode_jmp :
    decode [0x4C, 0x34, 0x12] = .ok (.jmpAbs 0x1234, []) ∧
    decode [0x6C, 0x34, 0x12] = .ok (.jmpInd 0x1234, []) :=
  ⟨rfl, rfl⟩

theorem test_decode_control_flow :
    decode [0x90, 0xF8] = .ok (.bcc 0xF8, []) ∧
    decode [0xB0, 0xF8] = .ok (.bcs 0xF8, []) ∧
    decode [0xF0, 0xF8] = .ok (.beq 0xF8, []) ∧
    decode [0xD0, 0xF8] = .ok (.bne 0xF8, []) ∧
    decode [0x30, 0xF8] = .ok (.bmi 0xF8, []) ∧
    decode [0x10, 0xF8] = .ok (.bpl 0xF8, []) ∧
    decode [0x50, 0xF8] = .ok (.bvc 0xF8, []) ∧
    decode [0x70, 0xF8] = .ok (.bvs 0xF8, []) ∧
    decode [0x20, 0x34, 0x12] = .ok (.jsr 0x1234, []) ∧
    decode [0x60] = .ok (.rts, []) :=
  ⟨rfl, rfl, rfl, rfl, rfl, rfl, rfl, rfl, rfl, rfl⟩

theorem test_decode_stack_status_system :
    decode [0x48] = .ok (.pha, []) ∧
    decode [0x08] = .ok (.php, []) ∧
    decode [0x68] = .ok (.pla, []) ∧
    decode [0x28] = .ok (.plp, []) ∧
    decode [0x00] = .ok (.brk, []) ∧
    decode [0x40] = .ok (.rti, []) ∧
    decode [0x18] = .ok (.clc, []) ∧
    decode [0x38] = .ok (.sec, []) ∧
    decode [0x58] = .ok (.cli, []) ∧
    decode [0x78] = .ok (.sei, []) ∧
    decode [0xD8] = .ok (.cld, []) ∧
    decode [0xF8] = .ok (.sed, []) ∧
    decode [0xB8] = .ok (.clv, []) ∧
    decode [0xEA] = .ok (.nop, []) :=
  ⟨rfl, rfl, rfl, rfl, rfl, rfl, rfl, rfl, rfl, rfl, rfl, rfl, rfl, rfl⟩

/-- The 105 undocumented values (30_encoding.md R105), no operand byte taken. -/
theorem test_decode_ill :
    (([0x02, 0x03, 0x04, 0x07, 0x0B, 0x0C, 0x0F, 0x12, 0x13, 0x14, 0x17, 0x1A, 0x1B, 0x1C, 0x1F, 0x22, 0x23, 0x27] ++
      [0x2B, 0x2F, 0x32, 0x33, 0x34, 0x37, 0x3A, 0x3B, 0x3C, 0x3F, 0x42, 0x43, 0x44, 0x47, 0x4B, 0x4F, 0x52, 0x53] ++
      [0x54, 0x57, 0x5A, 0x5B, 0x5C, 0x5F, 0x62, 0x63, 0x64, 0x67, 0x6B, 0x6F, 0x72, 0x73, 0x74, 0x77, 0x7A, 0x7B] ++
      [0x7C, 0x7F, 0x80, 0x82, 0x83, 0x87, 0x89, 0x8B, 0x8F, 0x92, 0x93, 0x97, 0x9B, 0x9C, 0x9E, 0x9F, 0xA3, 0xA7] ++
      [0xAB, 0xAF, 0xB2, 0xB3, 0xB7, 0xBB, 0xBF, 0xC2, 0xC3, 0xC7, 0xCB, 0xCF, 0xD2, 0xD3, 0xD4, 0xD7, 0xDA, 0xDB] ++
      [0xDC, 0xDF, 0xE2, 0xE3, 0xE7, 0xEB, 0xEF, 0xF2, 0xF3, 0xF4, 0xF7, 0xFA, 0xFB, 0xFC, 0xFF] : List Nat).all
      fun k => decodeTableWord 8 k == some (.ill (BitVec.ofNat 8 k))) = true := by decide

theorem test_decode_truncated : decode [0xAD, 0x34] = .error (.truncated 0xAD) ∧ decode [] = .error .noOpcode := ⟨rfl, rfl⟩

/-! ### One step, on the spec's test vectors. Each theorem's name ends in the vector's own; the expected values are its. -/

/-- The start of a vector: the bytes at PC, the cells given, SP 0xFF, every flag clear, every other register zero. -/
def start (pc : Word) (bytes : List Byte) (cells : List (Nat × Byte)) : State :=
  let s := (bytes.zipIdx).foldl (fun s e => s.place (pc + BitVec.ofNat 16 e.2) e.1) State.reset
  { s with
    pc := pc
    flags := ⟨false, false, false, false, false, false⟩
    ram := cells.foldl (fun m e => m.write e.1 e.2) s.ram }

/-- What is seen of the state after one step. -/
def after {α : Type} (s : State) (f : State → α) : Option α :=
  match step s with
  | .next t => some (f t)
  | _ => none

theorem test_ldaZpx_ta1 :
    after { start 0x0200 [0xB5, 0xFF] [(0x0000, 0x42)] with x := 0x01 }
      (fun t => (t.pc, t.flags, t.cycles, t.a)) =
    some (0x0202, ⟨false, false, false, false, false, false⟩, 4, 0x42) := by decide

theorem test_ldaAbsx_ta2 :
    after { start 0x0200 [0xBD, 0xFF, 0x10] [(0x1100, 0x80)] with x := 0x01 }
      (fun t => (t.pc, t.flags, t.cycles, t.a)) =
    some (0x0203, ⟨false, false, false, false, false, true⟩, 5, 0x80) := by decide

theorem test_ldaIndx_ta5 :
    after { start 0x0200 [0xA1, 0xFE] [(0x00FF, 0x34), (0x0000, 0x12), (0x1234, 0x99)] with x := 0x01 }
      (fun t => (t.pc, t.flags, t.cycles, t.a)) =
    some (0x0202, ⟨false, false, false, false, false, true⟩, 6, 0x99) := by decide

theorem test_ldaIndy_ta7 :
    after (start 0x0200 [0xB1, 0xFF] [(0x00FF, 0x00), (0x0000, 0x30), (0x3000, 0x66)])
      (fun t => (t.pc, t.flags, t.cycles, t.a)) =
    some (0x0202, ⟨false, false, false, false, false, false⟩, 5, 0x66) := by decide

theorem test_jmpInd_ta8 :
    after (start 0x0200 [0x6C, 0xFF, 0x10] [(0x10FF, 0x34), (0x1000, 0x12), (0x1100, 0x56)])
      (fun t => (t.pc, t.flags, t.cycles)) =
    some (0x1234, ⟨false, false, false, false, false, false⟩, 5) := by decide

theorem test_staAbsx_ta10 :
    after { start 0x0200 [0x9D, 0xFF, 0x10] [] with a := 0x11, x := 0x01 }
      (fun t => (t.pc, t.flags, t.cycles, t.ram.read 0x1100)) =
    some (0x0203, ⟨false, false, false, false, false, false⟩, 5, 0x11) := by decide

theorem test_staIndy_ta11 :
    after { start 0x0200 [0x91, 0x20] [(0x0020, 0xF0), (0x0021, 0x12)] with a := 0x11, y := 0x10 }
      (fun t => (t.pc, t.flags, t.cycles, t.ram.read 0x1300)) =
    some (0x0202, ⟨false, false, false, false, false, false⟩, 6, 0x11) := by decide

theorem test_bne_ta12 :
    after (start 0x0280 [0xD0, 0x7F] [])
      (fun t => (t.pc, t.flags, t.cycles)) =
    some (0x0301, ⟨false, false, false, false, false, false⟩, 4) := by decide

theorem test_ldaImm_tl1 :
    after { start 0x0200 [0xA9, 0x00] [] with flags := ⟨false, false, false, false, false, true⟩ }
      (fun t => (t.pc, t.flags, t.cycles)) =
    some (0x0202, ⟨false, true, false, false, false, false⟩, 2) := by decide

theorem test_ldaImm_tl2 :
    after (start 0x0200 [0xA9, 0x80] [])
      (fun t => (t.pc, t.flags, t.cycles, t.a)) =
    some (0x0202, ⟨false, false, false, false, false, true⟩, 2, 0x80) := by decide

theorem test_ldyAbsx_tl4 :
    after { start 0x0200 [0xBC, 0xF8, 0x12] [(0x1308, 0x01)] with x := 0x10 }
      (fun t => (t.pc, t.flags, t.cycles, t.y)) =
    some (0x0203, ⟨false, false, false, false, false, false⟩, 5, 0x01) := by decide

theorem test_staZp_tl5 :
    after { start 0x0200 [0x85, 0x10] [] with a := 0x42 }
      (fun t => (t.pc, t.flags, t.cycles, t.ram.read 0x0010)) =
    some (0x0202, ⟨false, false, false, false, false, false⟩, 3, 0x42) := by decide

theorem test_staAbs_tl6 :
    after { start 0x0200 [0x8D, 0x00, 0xC0] [] with a := 0x42, osEnabled := true, osRom := [(0, 0xEA)] }
      (fun t => (t.pc, t.flags, t.cycles, t.ram.read 0xC000)) =
    some (0x0203, ⟨false, false, false, false, false, false⟩, 4, 0x00) := by decide

theorem test_staAbs_tl8 :
    after { start 0x0200 [0x8D, 0x1A, 0xD4] [] with a := 0x42 }
      (fun t => (t.pc, t.flags, t.cycles, t.stall)) =
    some (0x0203, ⟨false, false, false, false, false, false⟩, 4, true) := by decide

theorem test_stxZpy_tl9 :
    after { start 0x0200 [0x96, 0xFE] [] with x := 0x99, y := 0x05 }
      (fun t => (t.pc, t.flags, t.cycles, t.ram.read 0x0003)) =
    some (0x0202, ⟨false, false, false, false, false, false⟩, 4, 0x99) := by decide

theorem test_styZpx_tl10 :
    after { start 0x0200 [0x94, 0xFF] [] with x := 0x02, y := 0x77 }
      (fun t => (t.pc, t.flags, t.cycles, t.ram.read 0x0001)) =
    some (0x0202, ⟨false, false, false, false, false, false⟩, 4, 0x77) := by decide

theorem test_tax_tl11 :
    after { start 0x0200 [0xAA] [] with a := 0x00, x := 0x55 }
      (fun t => (t.pc, t.flags, t.cycles, t.x)) =
    some (0x0201, ⟨false, true, false, false, false, false⟩, 2, 0x00) := by decide

theorem test_tay_tl12 :
    after { start 0x0200 [0xA8] [] with a := 0x80 }
      (fun t => (t.pc, t.flags, t.cycles, t.y)) =
    some (0x0201, ⟨false, false, false, false, false, true⟩, 2, 0x80) := by decide

theorem test_txa_tl13 :
    after { start 0x0200 [0x8A] [] with a := 0xFF, x := 0x01 }
      (fun t => (t.pc, t.flags, t.cycles, t.a)) =
    some (0x0201, ⟨false, false, false, false, false, false⟩, 2, 0x01) := by decide

theorem test_tya_tl14 :
    after { start 0x0200 [0x98] [] with a := 0x12, y := 0x00 }
      (fun t => (t.pc, t.flags, t.cycles, t.a)) =
    some (0x0201, ⟨false, true, false, false, false, false⟩, 2, 0x00) := by decide

theorem test_tsx_tl15 :
    after { start 0x0200 [0xBA] [] with sp := 0x80 }
      (fun t => (t.pc, t.flags, t.cycles, t.x)) =
    some (0x0201, ⟨false, false, false, false, false, true⟩, 2, 0x80) := by decide

theorem test_txs_tl16 :
    after { start 0x0200 [0x9A] [] with x := 0x00, flags := ⟨false, false, false, false, false, true⟩ }
      (fun t => (t.pc, t.flags, t.cycles, t.sp)) =
    some (0x0201, ⟨false, false, false, false, false, true⟩, 2, 0x00) := by decide

theorem test_ldxAbsy_tl17 :
    after { start 0x0200 [0xBE, 0xFF, 0x10] [(0x1100, 0x00)] with y := 0x01 }
      (fun t => (t.pc, t.flags, t.cycles)) =
    some (0x0203, ⟨false, true, false, false, false, false⟩, 5) := by decide

theorem test_staIndx_tl18 :
    after { start 0x0200 [0x81, 0xFC] [(0x0000, 0x00), (0x0001, 0x20)] with a := 0x5A, x := 0x04 }
      (fun t => (t.pc, t.flags, t.cycles, t.ram.read 0x2000)) =
    some (0x0202, ⟨false, false, false, false, false, false⟩, 6, 0x5A) := by decide

theorem test_adcImm_tr1 :
    after { start 0x0200 [0x69, 0x50] [] with a := 0x50 }
      (fun t => (t.pc, t.flags, t.cycles, t.a)) =
    some (0x0202, ⟨false, false, false, false, true, true⟩, 2, 0xA0) := by decide

theorem test_adcImm_tr2 :
    after { start 0x0200 [0x69, 0x01] [] with a := 0xFF }
      (fun t => (t.pc, t.flags, t.cycles, t.a)) =
    some (0x0202, ⟨true, true, false, false, false, false⟩, 2, 0x00) := by decide

theorem test_sbcImm_tr9 :
    after { start 0x0200 [0xE9, 0xB0] [] with a := 0x50, flags := ⟨true, false, false, false, false, false⟩ }
      (fun t => (t.pc, t.flags, t.cycles, t.a)) =
    some (0x0202, ⟨false, false, false, false, true, true⟩, 2, 0xA0) := by decide

theorem test_sbcImm_tr10 :
    after { start 0x0200 [0xE9, 0x01] [] with a := 0x00, flags := ⟨true, false, false, false, false, false⟩ }
      (fun t => (t.pc, t.flags, t.cycles, t.a)) =
    some (0x0202, ⟨false, false, false, false, false, true⟩, 2, 0xFF) := by decide

theorem test_andImm_tr15 :
    after { start 0x0200 [0x29, 0x0F] [] with a := 0xF0 }
      (fun t => (t.pc, t.flags, t.cycles, t.a)) =
    some (0x0202, ⟨false, true, false, false, false, false⟩, 2, 0x00) := by decide

theorem test_oraImm_tr16 :
    after { start 0x0200 [0x09, 0x01] [] with a := 0x80 }
      (fun t => (t.pc, t.flags, t.cycles, t.a)) =
    some (0x0202, ⟨false, false, false, false, false, true⟩, 2, 0x81) := by decide

theorem test_eorImm_tr17 :
    after { start 0x0200 [0x49, 0xFF] [] with a := 0xFF }
      (fun t => (t.pc, t.flags, t.cycles, t.a)) =
    some (0x0202, ⟨false, true, false, false, false, false⟩, 2, 0x00) := by decide

theorem test_cmpImm_tr18 :
    after { start 0x0200 [0xC9, 0x40] [] with a := 0x40 }
      (fun t => (t.pc, t.flags, t.cycles)) =
    some (0x0202, ⟨true, true, false, false, false, false⟩, 2) := by decide

theorem test_cmpImm_tr19 :
    after { start 0x0200 [0xC9, 0x41] [] with a := 0x40 }
      (fun t => (t.pc, t.flags, t.cycles)) =
    some (0x0202, ⟨false, false, false, false, false, true⟩, 2) := by decide

theorem test_cpxImm_tr20 :
    after { start 0x0200 [0xE0, 0x80] [] with x := 0x00 }
      (fun t => (t.pc, t.flags, t.cycles)) =
    some (0x0202, ⟨false, false, false, false, false, true⟩, 2) := by decide

theorem test_cpyImm_tr21 :
    after { start 0x0200 [0xC0, 0x01] [] with y := 0xFF, flags := ⟨false, false, false, false, true, false⟩ }
      (fun t => (t.pc, t.flags, t.cycles)) =
    some (0x0202, ⟨true, false, false, false, true, true⟩, 2) := by decide

theorem test_bitZp_tr22 :
    after { start 0x0200 [0x24, 0x10] [(0x0010, 0xC0)] with a := 0x01 }
      (fun t => (t.pc, t.flags, t.cycles)) =
    some (0x0202, ⟨false, true, false, false, true, true⟩, 3) := by decide

theorem test_bitAbs_tr23 :
    after { start 0x0200 [0x2C, 0x00, 0x12] [(0x1200, 0x01)] with 
        a := 0xFF, flags := ⟨false, false, false, false, true, true⟩ }
      (fun t => (t.pc, t.flags, t.cycles)) =
    some (0x0203, ⟨false, false, false, false, false, false⟩, 4) := by decide

theorem test_adcAbsx_tr24 :
    after { start 0x0200 [0x7D, 0xF8, 0x12] [(0x1308, 0x01)] with a := 0x10, x := 0x10 }
      (fun t => (t.pc, t.flags, t.cycles, t.a)) =
    some (0x0203, ⟨false, false, false, false, false, false⟩, 5, 0x11) := by decide

theorem test_aslAcc_ts1 :
    after { start 0x0200 [0x0A] [] with a := 0x80 }
      (fun t => (t.pc, t.flags, t.cycles, t.a)) =
    some (0x0201, ⟨true, true, false, false, false, false⟩, 2, 0x00) := by decide

theorem test_lsrAcc_ts2 :
    after { start 0x0200 [0x4A] [] with a := 0x01 }
      (fun t => (t.pc, t.flags, t.cycles, t.a)) =
    some (0x0201, ⟨true, true, false, false, false, false⟩, 2, 0x00) := by decide

theorem test_rolAcc_ts3 :
    after { start 0x0200 [0x2A] [] with a := 0x80, flags := ⟨true, false, false, false, false, false⟩ }
      (fun t => (t.pc, t.flags, t.cycles, t.a)) =
    some (0x0201, ⟨true, false, false, false, false, false⟩, 2, 0x01) := by decide

theorem test_rorAcc_ts4 :
    after { start 0x0200 [0x6A] [] with a := 0x01, flags := ⟨true, false, false, false, false, false⟩ }
      (fun t => (t.pc, t.flags, t.cycles, t.a)) =
    some (0x0201, ⟨true, false, false, false, false, true⟩, 2, 0x80) := by decide

theorem test_aslZp_ts5 :
    after (start 0x0200 [0x06, 0x10] [(0x0010, 0x41)])
      (fun t => (t.pc, t.flags, t.cycles, t.ram.read 0x0010)) =
    some (0x0202, ⟨false, false, false, false, false, true⟩, 5, 0x82) := by decide

theorem test_incZp_ts6 :
    after (start 0x0200 [0xE6, 0x10] [(0x0010, 0xFF)])
      (fun t => (t.pc, t.flags, t.cycles, t.ram.read 0x0010)) =
    some (0x0202, ⟨false, true, false, false, false, false⟩, 5, 0x00) := by decide

theorem test_decAbs_ts7 :
    after (start 0x0200 [0xCE, 0x00, 0x12] [(0x1200, 0x00)])
      (fun t => (t.pc, t.flags, t.cycles, t.ram.read 0x1200)) =
    some (0x0203, ⟨false, false, false, false, false, true⟩, 6, 0xFF) := by decide

theorem test_incAbsx_ts8 :
    after { start 0x0200 [0xFE, 0xFF, 0x10] [(0x1100, 0x7F)] with x := 0x01 }
      (fun t => (t.pc, t.flags, t.cycles, t.ram.read 0x1100)) =
    some (0x0203, ⟨false, false, false, false, false, true⟩, 7, 0x80) := by decide

theorem test_incAbs_ts9 :
    after { start 0x0200 [0xEE, 0x00, 0xC0] [] with osEnabled := true, osRom := [(0, 0xEA)] }
      (fun t => (t.pc, t.flags, t.cycles, t.ram.read 0xC000)) =
    some (0x0203, ⟨false, false, false, false, false, true⟩, 6, 0x00) := by decide

theorem test_inx_ts10 :
    after { start 0x0200 [0xE8] [] with x := 0xFF, flags := ⟨true, false, false, false, false, false⟩ }
      (fun t => (t.pc, t.flags, t.cycles, t.x)) =
    some (0x0201, ⟨true, true, false, false, false, false⟩, 2, 0x00) := by decide

theorem test_dey_ts11 :
    after { start 0x0200 [0x88] [] with y := 0x00 }
      (fun t => (t.pc, t.flags, t.cycles, t.y)) =
    some (0x0201, ⟨false, false, false, false, false, true⟩, 2, 0xFF) := by decide

theorem test_iny_ts12 :
    after { start 0x0200 [0xC8] [] with y := 0x7F }
      (fun t => (t.pc, t.flags, t.cycles, t.y)) =
    some (0x0201, ⟨false, false, false, false, false, true⟩, 2, 0x80) := by decide

theorem test_dex_ts13 :
    after { start 0x0200 [0xCA] [] with x := 0x01 }
      (fun t => (t.pc, t.flags, t.cycles, t.x)) =
    some (0x0201, ⟨false, true, false, false, false, false⟩, 2, 0x00) := by decide

theorem test_rorZpx_ts14 :
    after { start 0x0200 [0x76, 0x0E] [(0x0010, 0x02)] with x := 0x02 }
      (fun t => (t.pc, t.flags, t.cycles, t.ram.read 0x0010)) =
    some (0x0202, ⟨false, false, false, false, false, false⟩, 6, 0x01) := by decide

theorem test_incAbsx_ts15 :
    after { start 0x0200 [0xFE, 0x00, 0x10] [(0x1001, 0x10)] with x := 0x01 }
      (fun t => (t.pc, t.flags, t.cycles, t.ram.read 0x1001)) =
    some (0x0203, ⟨false, false, false, false, false, false⟩, 7, 0x11) := by decide

theorem test_bcc_tb1 :
    after (start 0x0200 [0x90, 0x05] [])
      (fun t => (t.pc, t.flags, t.cycles)) =
    some (0x0207, ⟨false, false, false, false, false, false⟩, 3) := by decide

theorem test_bcs_tb2 :
    after (start 0x0200 [0xB0, 0x05] [])
      (fun t => (t.pc, t.flags, t.cycles)) =
    some (0x0202, ⟨false, false, false, false, false, false⟩, 2) := by decide

theorem test_beq_tb3 :
    after { start 0x0210 [0xF0, 0xFC] [] with flags := ⟨false, true, false, false, false, false⟩ }
      (fun t => (t.pc, t.flags, t.cycles)) =
    some (0x020E, ⟨false, true, false, false, false, false⟩, 3) := by decide

theorem test_bne_tb4 :
    after (start 0x02F0 [0xD0, 0x20] [])
      (fun t => (t.pc, t.flags, t.cycles)) =
    some (0x0312, ⟨false, false, false, false, false, false⟩, 4) := by decide

theorem test_bmi_tb5 :
    after { start 0x0400 [0x30, 0x10] [] with flags := ⟨false, false, false, false, false, true⟩ }
      (fun t => (t.pc, t.flags, t.cycles)) =
    some (0x0412, ⟨false, false, false, false, false, true⟩, 3) := by decide

theorem test_bpl_tb6 :
    after { start 0x0400 [0x10, 0xFE] [] with flags := ⟨false, false, false, false, false, true⟩ }
      (fun t => (t.pc, t.flags, t.cycles)) =
    some (0x0402, ⟨false, false, false, false, false, true⟩, 2) := by decide

theorem test_bvc_tb7 :
    after (start 0x0500 [0x50, 0x00] [])
      (fun t => (t.pc, t.flags, t.cycles)) =
    some (0x0502, ⟨false, false, false, false, false, false⟩, 3) := by decide

theorem test_bvs_tb8 :
    after { start 0x0500 [0x70, 0x80] [] with flags := ⟨false, false, false, false, true, false⟩ }
      (fun t => (t.pc, t.flags, t.cycles)) =
    some (0x0482, ⟨false, false, false, false, true, false⟩, 4) := by decide

theorem test_bpl_tb9 :
    after (start 0x0400 [0x10, 0xFE] [])
      (fun t => (t.pc, t.flags, t.cycles)) =
    some (0x0400, ⟨false, false, false, false, false, false⟩, 3) := by decide

theorem test_jmpAbs_tb10 :
    after (start 0x0200 [0x4C, 0x00, 0x30] [])
      (fun t => (t.pc, t.flags, t.cycles)) =
    some (0x3000, ⟨false, false, false, false, false, false⟩, 3) := by decide

theorem test_jsr_tb11 :
    after (start 0x0600 [0x20, 0x00, 0x07] [])
      (fun t => (t.pc, t.flags, t.cycles, t.sp, [0x01FF, 0x01FE].map t.ram.read)) =
    some (0x0700, ⟨false, false, false, false, false, false⟩, 6, 0xFD, [0x06, 0x02]) := by decide

theorem test_rts_tb12 :
    after { start 0x0200 [0x60] [(0x01FE, 0x02), (0x01FF, 0x06)] with sp := 0xFD }
      (fun t => (t.pc, t.flags, t.cycles, t.sp)) =
    some (0x0603, ⟨false, false, false, false, false, false⟩, 6, 0xFF) := by decide

theorem test_jsr_tb13 :
    after { start 0x0600 [0x20, 0x00, 0x07] [] with sp := 0x00 }
      (fun t => (t.pc, t.flags, t.cycles, t.sp, [0x0100, 0x01FF].map t.ram.read)) =
    some (0x0700, ⟨false, false, false, false, false, false⟩, 6, 0xFE, [0x06, 0x02]) := by decide

theorem test_pha_tk1 :
    after { start 0x0200 [0x48] [] with a := 0x5A }
      (fun t => (t.pc, t.flags, t.cycles, t.sp, t.ram.read 0x01FF)) =
    some (0x0201, ⟨false, false, false, false, false, false⟩, 3, 0xFE, 0x5A) := by decide

theorem test_php_tk2 :
    after { start 0x0200 [0x08] [] with flags := ⟨false, false, true, false, false, false⟩ }
      (fun t => (t.pc, t.flags, t.cycles, t.sp, t.ram.read 0x01FF)) =
    some (0x0201, ⟨false, false, true, false, false, false⟩, 3, 0xFE, 0x34) := by decide

theorem test_php_tk3 :
    after { start 0x0200 [0x08] [] with flags := ⟨true, true, false, true, true, true⟩ }
      (fun t => (t.pc, t.flags, t.cycles, t.sp, t.ram.read 0x01FF)) =
    some (0x0201, ⟨true, true, false, true, true, true⟩, 3, 0xFE, 0xFB) := by decide

theorem test_pla_tk4 :
    after { start 0x0200 [0x68] [(0x01FF, 0x00)] with a := 0x33, sp := 0xFE }
      (fun t => (t.pc, t.flags, t.cycles, t.a, t.sp)) =
    some (0x0201, ⟨false, true, false, false, false, false⟩, 4, 0x00, 0xFF) := by decide

theorem test_plp_tk5 :
    after { start 0x0200 [0x28] [(0x01FF, 0xFF)] with sp := 0xFE }
      (fun t => (t.pc, t.flags, t.cycles, t.sp)) =
    some (0x0201, ⟨true, true, true, true, true, true⟩, 4, 0xFF) := by decide

theorem test_plp_tk6 :
    after { start 0x0200 [0x28] [(0x01FF, 0x30)] with sp := 0xFE, flags := ⟨true, false, false, false, false, true⟩ }
      (fun t => (t.pc, t.flags, t.cycles, t.sp)) =
    some (0x0201, ⟨false, false, false, false, false, false⟩, 4, 0xFF) := by decide

theorem test_brk_tk7 :
    after (start 0x0300 [0x00, 0xAA] [(0xFFFE, 0x00), (0xFFFF, 0xE0)])
      (fun t => (t.pc, t.flags, t.cycles, t.sp, [0x01FF, 0x01FE, 0x01FD].map t.ram.read)) =
    some (0xE000, ⟨false, false, true, false, false, false⟩, 7, 0xFC, [0x03, 0x02, 0x30]) := by decide

theorem test_rti_tk8 :
    after { start 0x0200 [0x40] [(0x01FD, 0x34), (0x01FE, 0x02), (0x01FF, 0x03)] with sp := 0xFC }
      (fun t => (t.pc, t.flags, t.cycles, t.sp)) =
    some (0x0302, ⟨false, false, true, false, false, false⟩, 6, 0xFF) := by decide

theorem test_pha_tk9 :
    after { start 0x0200 [0x48] [] with a := 0x01, sp := 0x00 }
      (fun t => (t.pc, t.flags, t.cycles, t.sp, t.ram.read 0x0100)) =
    some (0x0201, ⟨false, false, false, false, false, false⟩, 3, 0xFF, 0x01) := by decide

theorem test_clc_tk10 :
    after { start 0x0200 [0x18] [] with flags := ⟨true, false, false, false, false, false⟩ }
      (fun t => (t.pc, t.flags, t.cycles)) =
    some (0x0201, ⟨false, false, false, false, false, false⟩, 2) := by decide

theorem test_sec_tk11 :
    after (start 0x0200 [0x38] [])
      (fun t => (t.pc, t.flags, t.cycles)) =
    some (0x0201, ⟨true, false, false, false, false, false⟩, 2) := by decide

theorem test_cli_tk12 :
    after { start 0x0200 [0x58] [] with flags := ⟨false, false, true, false, false, false⟩ }
      (fun t => (t.pc, t.flags, t.cycles)) =
    some (0x0201, ⟨false, false, false, false, false, false⟩, 2) := by decide

theorem test_sei_tk13 :
    after (start 0x0200 [0x78] [])
      (fun t => (t.pc, t.flags, t.cycles)) =
    some (0x0201, ⟨false, false, true, false, false, false⟩, 2) := by decide

theorem test_cld_tk14 :
    after { start 0x0200 [0xD8] [] with flags := ⟨false, false, false, true, false, false⟩ }
      (fun t => (t.pc, t.flags, t.cycles)) =
    some (0x0201, ⟨false, false, false, false, false, false⟩, 2) := by decide

theorem test_sed_tk15 :
    after (start 0x0200 [0xF8] [])
      (fun t => (t.pc, t.flags, t.cycles)) =
    some (0x0201, ⟨false, false, false, true, false, false⟩, 2) := by decide

theorem test_clv_tk16 :
    after { start 0x0200 [0xB8] [] with flags := ⟨false, false, false, false, true, false⟩ }
      (fun t => (t.pc, t.flags, t.cycles)) =
    some (0x0201, ⟨false, false, false, false, false, false⟩, 2) := by decide

theorem test_nop_tk17 :
    after (start 0x0200 [0xEA] [])
      (fun t => (t.pc, t.flags, t.cycles)) =
    some (0x0201, ⟨false, false, false, false, false, false⟩, 2) := by decide

theorem test_ill_th1 :
    after (start 0x0200 [0x02] [])
      (fun t => (t.pc, t.flags, t.cycles, t.halted)) =
    some (0x0201, ⟨false, false, false, false, false, false⟩, 0, true) := by decide

theorem test_ill_th2 :
    after { start 0x0200 [0xFF, 0x00, 0x00] [] with a := 0x12 }
      (fun t => (t.pc, t.flags, t.cycles, t.halted)) =
    some (0x0201, ⟨false, false, false, false, false, false⟩, 0, true) := by decide

theorem test_interrupt_ti1 :
    after { start 0x0200 [0xEA] [] with flags := ⟨false, false, true, false, false, false⟩, irqPending := true }
      (fun t => (t.pc, t.flags, t.cycles, t.irqPending)) =
    some (0x0201, ⟨false, false, true, false, false, false⟩, 2, true) := by decide

theorem test_interrupt_ti2 :
    after { start 0x0200 [0xEA] [(0xFFFE, 0x00), (0xFFFF, 0x03), (0x0300, 0xE8)] with 
        flags := ⟨false, true, false, false, false, false⟩, irqPending := true }
      (fun t => (t.pc, t.flags, t.cycles, [0x01FF, 0x01FE, 0x01FD].map t.ram.read, [t.x, t.sp])) =
    some (0x0301, ⟨false, false, true, false, false, false⟩, 9, [0x02, 0x00, 0x22], [0x01, 0xFC]) := by decide

theorem test_interrupt_ti3 :
    after { start 0x0200 [0xEA] [(0xFFFA, 0x00), (0xFFFB, 0x04), (0x0400, 0xEA)] with 
        flags := ⟨false, false, true, false, false, false⟩, nmiPending := true }
      (fun t => (t.pc, t.flags, t.cycles, t.nmiPending, [0x01FF, 0x01FE, 0x01FD].map t.ram.read)) =
    some (0x0401, ⟨false, false, true, false, false, false⟩, 9, false, [0x02, 0x00, 0x24]) := by decide

theorem test_interrupt_ti4 :
    after { start 0x0200 [0xEA] [(0xFFFA, 0x00), (0xFFFB, 0x04), (0x0400, 0xEA), (0xFFFE, 0x00), (0xFFFF, 0x03)] with 
        nmiPending := true, irqPending := true }
      (fun t => (t.pc, t.flags, t.cycles, [0x01FF, 0x01FE, 0x01FD].map t.ram.read, [t.nmiPending, t.irqPending])) =
    some (0x0401, ⟨false, false, true, false, false, false⟩, 9, [0x02, 0x00, 0x20], [false, true]) := by decide

theorem test_interrupt_ti7 :
    after { start 0x0200 [0x00, 0x00] [(0xFFFE, 0x00), (0xFFFF, 0x03), (0x0300, 0xEA)] with irqPending := true }
      (fun t => (t.pc, t.flags, t.cycles, t.irqPending, [0x01FF, 0x01FE, 0x01FD].map t.ram.read)) =
    some (0x0301, ⟨false, false, true, false, false, false⟩, 9, false, [0x02, 0x00, 0x20]) := by decide

/-! ### Reset -/

/-- The state after reset is what `reset()` leaves of the machine as constructed (70_reset_and_hazards.md R400, R404). -/
theorem test_reset_of_constructed : hostReset State.constructed = State.reset := by decide

theorem test_reset_takes_vector :
    (hostReset { State.constructed with ram := [(0xFFFD, 0x06)] }).pc = 0x0600 := by decide

theorem test_reset_memory_wf :
    State.reset.ram.wf = true ∧ State.reset.osRom.wf = true ∧ State.reset.basicRom.wf = true := by decide

theorem test_table_word_runs_first :
    after (State.reset.withFetchWord 24 0x12348D) (fun t => (t.pc, t.cycles)) = some (0x0003, 4) := by decide

/-! ### Witnesses: for every statement with hypotheses, a state and operands that meet them all -/

/-- A running state: a program in RAM and a stack page half used. -/
def demo : State := { start 0x0600 [0xA9, 0x10] [(0x01FE, 0x34), (0x01FF, 0x12)] with sp := 0xFD }

theorem demo_inv : demo.Inv := by constructor <;> decide

theorem demo_ready : demo.Ready := by constructor <;> decide

/-- Both banks on, with images of a byte each. -/
def banked : State :=
  { demo with osEnabled := true, basicEnabled := true, osRom := [(0, 0xEA)], basicRom := [(0x1FFF, 0x4C)] }

theorem banked_inv : banked.Inv := by constructor <;> decide

theorem witness_DecodeOfEncodeGivesInstruction : (Instr.ill 0x02).wf = true ∧ (Instr.ldaAbsx 0xFFFF).wf = true := by decide

theorem witness_EncodeOfDecodedBytesGivesBytes : decode [0x8D, 0x0A, 0xD4, 0x60] = .ok (.staAbs 0xD40A, [0x60]) := rfl

theorem witness_CostFollowsModeAndPenalties :
    (entry 0xBD).pageCrossPenalty = true ∧ (entry 0x90).branchPenalty = true ∧
    ((entry 0x8D).pageCrossPenalty = false ∧ (entry 0x8D).branchPenalty = false) := by decide

theorem witness_StepRunsDecodedInstruction :
    demo.Ready ∧ demo.Undisturbed ∧ demo.Shows demo.pc [0xA9, 0x10] ∧ decode [0xA9, 0x10] = .ok (.ldaImm 0x10, []) :=
  ⟨demo_ready, by unfold State.Undisturbed; decide, by unfold State.Shows; decide, rfl⟩

/-- The same at the top of memory: the operand bytes are at 0x0000 and 0x0001. -/
theorem witness_StepRunsDecodedInstruction_wraps :
    (start 0xFFFF [0xAD, 0x34, 0x12] []).Shows 0xFFFF [0xAD, 0x34, 0x12] := by unfold State.Shows; decide

theorem witness_HaltedStepChangesNothing :
    { demo with halted := true, nmiPending := true }.unset = [] ∧
    { demo with halted := true, nmiPending := true }.halted = true := by decide

def stalled : State := { demo with stall := true }

theorem witness_StalledStepWaitsForTick :
    stalled.unset = [] ∧ stalled.halted = false ∧ stalled.stall = true ∧ stalled.windowsLegal = true ∧
    stalled.nmiPending = false ∧ stalled.flags.i = false := by decide

theorem witness_StalledStepWaitsForTick_ends :
    HostOp.tick.run stalled = .next (tick stalled) ∧ (tick stalled).stall = false ∧
    HostOp.reset.run stalled = .next (hostReset stalled) ∧ (hostReset stalled).stall = false := ⟨rfl, rfl, rfl, by decide⟩

theorem witness_EveryInstructionAndStepCompletes : demo.unset = [] := by decide

theorem witness_HaltedModeIsEnteredByUndocumentedLeftByReset_step :
    demo.Ready ∧ ∃ t : State, step demo = .next t := ⟨demo_ready, _, rfl⟩

def halted : State := { demo with halted := true }

theorem witness_HaltedModeIsEnteredByUndocumentedLeftByReset_reset :
    halted.halted = true ∧ HostOp.reset.run halted = .next (hostReset halted) ∧ (hostReset halted).halted = false :=
  ⟨rfl, rfl, by decide⟩

/-- A `set_state` that names `halted` and nothing else. -/
def wake : Patch where
  a := none
  x := none
  y := none
  sp := none
  pc := none
  c := none
  z := none
  i := none
  d := none
  v := none
  n := none
  halted := some false
  cycles := none
  nmiPending := none
  irqPending := none
  stall := none
  ram := []

/-- A state whose `halted` no operation has written yet, so that its field means nothing. -/
def unwritten : State := { halted with unset := [.halted] }

theorem witness_HaltedModeIsEnteredByUndocumentedLeftByReset_setState :
    unwritten.halted = true ∧ (HostOp.setState wake).run unwritten = .next (setState wake unwritten) ∧
    (setState wake unwritten).halted = false ∧ Item.halted ∈ unwritten.unset := ⟨rfl, rfl, by decide, by decide⟩

/-- "Reset is the only way out of the halted state" (70_reset_and_hazards.md R402). -/
theorem test_setState_keeps_halted_mode : (setState wake halted).halted = true ∧ (setState wake demo).halted = false := by
  decide

/-- A `set_state` that names everything but registers and flags, each with false or 7. -/
def meddle : Patch := { wake with cycles := some 7, nmiPending := some false, irqPending := some false, stall := some false }

/-- It changes none of them once they have a value: a stall lasts until `tick()` (60_exceptions.md R367), nothing but a step and
`reset()` changes `cycles` (10_state.md R37), and a latch is cleared by its interrupt alone (60_exceptions.md R352, R353). -/
theorem test_setState_keeps_determinate_items :
    setState meddle { stalled with halted := true, nmiPending := true, irqPending := true, cycles := 3 } =
      { stalled with halted := true, nmiPending := true, irqPending := true, cycles := 3 } := by decide

/-- Each takes its first value from `set_state` (10_state.md R45). -/
theorem test_setState_gives_first_values :
    (setState meddle { State.constructed with stall := true, cycles := 3 }).cycles = 7 ∧
    (setState meddle { State.constructed with stall := true, cycles := 3 }).stall = false ∧
    (setState meddle { State.constructed with nmiPending := true }).nmiPending = false := by decide

/-- A `set_state` that names cells: one twice, one under enabled ROM, one under a window. -/
def nameCells : Patch :=
  { wake with ram := [(0x0600, 0x01), (0xC000, 0x42), (0xD200, 0x55), (0x0600, 0xEA)] }

theorem test_setState_writes_named_cells :
    [0x0600, 0x0601, 0xC000, 0xD200].map (setState nameCells banked).ram.read = [0xEA, 0x10, 0x42, 0x00] := by decide

theorem witness_HostOperationsWriteWhatTheyName_memory :
    banked.Inv ∧ (∀ e ∈ nameCells.ram, e.1 ≠ 0x0601) ∧ (banked.windowOf (hiByte 0xD200)).isSome = true ∧
    nameCells.ram = [(0x0600, 0x01)] ++ (0xC000, 0x42) :: [(0xD200, 0x55), (0x0600, 0xEA)] ∧
    (∀ e ∈ ([(0xD200, 0x55), (0x0600, 0xEA)] : List (Word × Byte)), e.1 ≠ 0xC000) ∧
    banked.windowOf (hiByte 0xC000) = none := ⟨banked_inv, by simp [nameCells], by decide, rfl, by simp, by decide⟩

theorem witness_HostOperationsWriteWhatTheyName :
    (halted.halted = true ∧ Item.halted ∉ halted.unset) ∧ (unwritten.halted = true ∧ Item.halted ∈ unwritten.unset) ∧
    wake.halted.isSome = true ∧
    ([Item.cycles, .nmiPending, .irqPending, .stall].all fun k =>
      demo.isDeterminate k && !State.constructed.isDeterminate k && meddle.names k) = true := by decide

theorem witness_StepAndHostOperationsKeepInvariant :
    demo.Inv ∧ (∃ t : State, step demo = .next t) ∧ (∃ t : State, (HostOp.write 0xC000 0x42).run demo = .next t) :=
  ⟨demo_inv, ⟨_, rfl⟩, _, rfl⟩

theorem witness_EveryRunIsSafe : demo.Inv ∧ demo.unset = [] := ⟨demo_inv, rfl⟩

theorem witness_OperationsKeepParameters : ∃ t : State, HostOp.step.run demo = .next t := ⟨_, rfl⟩

theorem witness_RamUnderWindowIsNeverWritten :
    demo.Inv ∧ (∃ t : State, (HostOp.write 0xD200 0x42).run demo = .next t) ∧
    (demo.windowOf (hiByte 0xD200)).isSome = true := ⟨demo_inv, ⟨_, rfl⟩, by decide⟩

theorem witness_RegionPriority_window :
    banked.windowOf (hiByte 0xD2FF) = some ⟨0xD2, .pokey, 16⟩ ∧ banked.region 0xD2FF = .window .pokey 0x0F := by decide

theorem witness_RegionPriority_basic :
    ([0xA000, 0xBFFF] : List Word).all (fun a => decide (banked.windowOf (hiByte a) = none ∧ 0xA000 ≤ a.toNat ∧
      a.toNat ≤ 0xBFFF ∧ banked.basicEnabled = true)) = true := by decide

theorem witness_RegionPriority_os :
    ([0xC000, 0xCFFF, 0xD800, 0xFFFF] : List Word).all (fun a => decide (banked.windowOf (hiByte a) = none ∧
      0xC000 ≤ a.toNat ∧ banked.osEnabled = true)) = true := by decide

theorem witness_RegionPriority_ram :
    banked.windowOf (hiByte 0x9FFF) = none ∧
    (demo.windowOf (hiByte 0xA000) = none ∧ demo.basicEnabled = false) ∧
    (demo.windowOf (hiByte 0xBFFF) = none ∧ demo.basicEnabled = false) ∧
    (demo.windowOf (hiByte 0xC000) = none ∧ demo.osEnabled = false) ∧
    (demo.windowOf (hiByte 0xFFFF) = none ∧ demo.osEnabled = false) := by decide

theorem witness_BelowA000IsRam :
    banked.windowsLegal = true ∧ (0x0000 : Word).toNat < 0xA000 ∧ (0x9FFF : Word).toNat < 0xA000 := by decide

theorem witness_RamReadsBackLastWrite : demo.Inv ∧ demo.region 0xFFFF = .ram 0xFFFF := ⟨demo_inv, by decide⟩

theorem witness_RomWriteDiscardedRamPersists_discarded :
    banked.region 0xC000 = .osRom 0 ∧ banked.region 0xFFFF = .osRom 0x3FFF ∧ banked.region 0xA000 = .basicRom 0 ∧
    banked.region 0xBFFF = .basicRom 0x1FFF := by decide

theorem witness_RomWriteDiscardedRamPersists_kept :
    banked.Inv ∧ banked.windowOf (hiByte 0xA000) = none ∧ banked.windowOf (hiByte 0xFFFF) = none ∧
    0xA000 ≤ (0xA000 : Word).toNat := ⟨banked_inv, by decide⟩

/-- Windows of the least and the greatest period. -/
def windowed : State := { demo with chipWindows := [⟨0xA0, .other 1, 256⟩, ⟨0xFF, .other 2, 1⟩] }

theorem witness_WindowMirrorsModuloPeriod :
    windowed.windowsLegal = true ∧ windowed.windowOf (hiByte 0xA0FF) = some ⟨0xA0, .other 1, 256⟩ ∧
    windowed.windowOf (hiByte 0xFFFF) = some ⟨0xFF, .other 2, 1⟩ := by decide

theorem witness_WsyncWriteSetsStall :
    demo.region 0xD40A = .window demo.wsyncReg.device demo.wsyncReg.index ∧
    demo.region 0xD4FA = .window demo.wsyncReg.device demo.wsyncReg.index ∧
    demo.chipWindows = Config.chipWindows ∧ demo.wsyncReg = Config.wsyncReg := by decide

theorem witness_DeviceWriteEffectsAreLimited :
    demo.region 0xD40A = .window .antic 0x0A ∧ demo.region 0xD01F = .window .gtia 0x1F := by decide

theorem witness_BankSwitchTakesEffectAtOnce :
    ([0xA000, 0xBFFF, 0xC000, 0xFFFF] : List Word).all
      (fun a => decide (demo.windowOf (hiByte a) = none ∧ 0xA000 ≤ a.toNat)) = true := by decide

theorem witness_PageReadWrapsOnlyAtPageEnd :
    (0x10FE : Word).toNat % 256 ≠ 255 ∧ (0x10FF : Word).toNat % 256 = 255 ∧ (0xFFFF : Word).toNat % 256 = 255 := by decide

theorem witness_PushAndPullUseStackPage : { demo with sp := 0x00 }.Inv ∧ { demo with sp := 0xFF }.Inv :=
  ⟨by constructor <;> decide, by constructor <;> decide⟩

theorem witness_ZeroPagePointersWrapInPage : demo.windowsLegal = true := by decide

theorem witness_LoadingChangesNothing :
    ∃ l, loaded (.ldaAbs 0x01FF) demo = some l ∧ l.val = 0x12 := ⟨_, rfl, by decide⟩

theorem witness_LoadsWriteRegisterAndNZ :
    (Instr.ldaIndy 0x10).mnemonic = .LDA ∧ (Instr.ldxZpy 0xFF).mnemonic = .LDX ∧ (Instr.ldyImm 0x00).mnemonic = .LDY :=
  ⟨rfl, rfl, rfl⟩

theorem witness_StoresWriteRegisterToMemory :
    (Instr.staAbsx 0xC000).mnemonic = .STA ∧ (Instr.stxZpy 0xFF).mnemonic = .STX ∧ (Instr.styAbs 0xD40A).mnemonic = .STY :=
  ⟨rfl, rfl, rfl⟩

theorem witness_OnlyTheStoredCellChanges_stores :
    demo.Inv ∧ (∃ t : State, exec (.staAbs 0x0700) demo = .next t) ∧ (Instr.staAbs 0x0700).mnemonic = .STA ∧
    (Instr.staAbs 0x0700).operand = .mem (.abs 0x0700) ∧ 0x0701 ≠ (effAddr (.abs 0x0700) demo).val.addr.toNat :=
  ⟨demo_inv, ⟨_, rfl⟩, rfl, rfl, by decide⟩

theorem witness_OnlyTheStoredCellChanges_nothing_stored :
    demo.Inv ∧ (∃ t : State, exec .aslAcc demo = .next t) ∧ Instr.aslAcc.operand = .acc ∧
    (∃ t : State, exec (.ldaImm 0x10) demo = .next t) ∧ (Instr.ldaImm 0x10).mnemonic = .LDA :=
  ⟨demo_inv, ⟨_, rfl⟩, rfl, ⟨_, rfl⟩, rfl⟩

theorem witness_AdcBinaryAdds : (Instr.adcImm 0x01).mnemonic = .ADC ∧ demo.flags.d = false := ⟨rfl, by decide⟩

def decimal : State := { demo with flags := ⟨true, false, false, true, false, false⟩ }

theorem witness_AdcDecimalCorrectsDigits : (Instr.adcAbsx 0x01FF).mnemonic = .ADC ∧ decimal.flags.d = true :=
  ⟨rfl, by decide⟩

theorem witness_DecimalModeIsDecimalArithmetic : isBcd 0x00 = true ∧ isBcd 0x99 = true ∧ isBcd 0x9A = false := by decide

theorem witness_SbcBinarySubtracts : (Instr.sbcIndx 0xFF).mnemonic = .SBC ∧ demo.flags.d = false := ⟨rfl, by decide⟩

theorem witness_SbcDecimalCorrectsOnlyA : (Instr.sbcImm 0x01).mnemonic = .SBC ∧ decimal.flags.d = true :=
  ⟨rfl, by decide⟩

theorem witness_LogicWritesAAndNZ :
    (Instr.andImm 0x0F).mnemonic = .AND ∧ (Instr.oraAbs 0x1234).mnemonic = .ORA ∧ (Instr.eorIndy 0xFF).mnemonic = .EOR :=
  ⟨rfl, rfl, rfl⟩

theorem witness_ComparesSetCarryZeroNegative :
    (Instr.cmpZpx 0xFF).mnemonic = .CMP ∧ (Instr.cpxImm 0x80).mnemonic = .CPX ∧ (Instr.cpyAbs 0xFFFF).mnemonic = .CPY :=
  ⟨rfl, rfl, rfl⟩

theorem witness_BitTestTakesNVFromOperand : (Instr.bitZp 0x10).mnemonic = .BIT ∧ (Instr.bitAbs 0x1234).mnemonic = .BIT :=
  ⟨rfl, rfl⟩

theorem witness_ShiftsMoveBitIntoCarry :
    (Instr.aslAcc).mnemonic ∈ [Mnemonic.ASL, .LSR, .ROL, .ROR] ∧
    (Instr.rorAbsx 0xC000).mnemonic ∈ [Mnemonic.ASL, .LSR, .ROL, .ROR] := by decide

theorem witness_IncrementsWrapAndKeepCarry :
    (Instr.incAbsx 0x10FF).mnemonic = .INC ∧ (Instr.decZp 0x00).mnemonic = .DEC := ⟨rfl, rfl⟩

theorem witness_BranchesFollowTheirFlag :
    (Instr.bcc 0x7F, !demo.flags.c) ∈ [(Instr.bcc 0x7F, !demo.flags.c), (.bcs 0x7F, demo.flags.c)] ∧
    (!demo.flags.c) = true ∧ demo.flags.c = false := by decide

theorem witness_JumpsCallsAndReturns : demo.windowsLegal = true ∧ demo.Inv := ⟨by decide, demo_inv⟩

theorem witness_StackInstructionsMoveAAndStatus : demo.windowsLegal = true := by decide

theorem witness_BrkPushesAndVectors : { demo with sp := 0x01 }.windowsLegal = true := by decide

theorem witness_RtiRestoresStatusAndPc : { demo with sp := 0xFE }.windowsLegal = true := by decide

/-- A running state that shows an undocumented opcode. -/
def doomed : State := start 0xFFFF [0xFF] []

theorem witness_UndocumentedOpcodeHalts :
    0xFF ∈ undocumented ∧ doomed.Ready ∧ doomed.Undisturbed ∧ doomed.peek doomed.pc = some 0xFF :=
  ⟨by decide, by constructor <;> decide, by unfold State.Undisturbed; decide, by decide⟩

theorem witness_InterruptEntrySavesPcAndStatus : { demo with sp := 0x00 }.windowsLegal = true := by decide

theorem witness_InterruptIsTakenAtBoundary_nmi :
    { demo with nmiPending := true, irqPending := true }.Ready ∧
    { demo with nmiPending := true, irqPending := true }.windowsLegal = true ∧
    { demo with nmiPending := true, irqPending := true }.nmiPending = true :=
  ⟨by constructor <;> decide, by decide, rfl⟩

theorem witness_InterruptIsTakenAtBoundary_irq :
    { demo with irqPending := true }.Ready ∧ { demo with irqPending := true }.windowsLegal = true ∧
    { demo with irqPending := true }.nmiPending = false ∧ { demo with irqPending := true }.irqPending = true ∧
    { demo with irqPending := true }.flags.i = false :=
  ⟨by constructor <;> decide, by decide, by decide, by decide, by decide⟩

theorem witness_MaskedIrqIsKeptAndIgnored : State.reset.flags.i = true ∧ State.reset.nmiPending = false := by decide

theorem witness_RtiUndoesInterruptEntry : { demo with sp := 0x01 }.Inv := by constructor <;> decide

theorem witness_ResetGivesFixedStateAndIsIdempotent : banked.IsStorage 0xFFFC ∧ banked.IsStorage 0xFFFD := by
  unfold State.IsStorage; decide

end Sys2Proof.Tests
end

section
/-! The packed status, bit by bit (O51). -/

namespace Sys2Proof.Machine

theorem getElem_flagBit (f : Bool) {k : Nat} (hk : k < 8) : (flagBit f)[k] = (decide (k = 0) && f) := by
  cases f <;> simp [flagBit, BitVec.getElem_one]

/-- The layout of the packed status from bit 0 to bit 7: C Z I D B 1 V N (R33). -/
def Flags.packedBits (f : Flags) (b : Bool) : List Bool := [f.c, f.z, f.i, f.d, b, true, f.v, f.n]

theorem Flags.getElem_pack (f : Flags) (b : Bool) {k : Nat} (hk : k < 8) :
    (f.pack b)[k] = (f.packedBits b)[k]'hk := by
  interval_cases k <;> simp [Flags.pack, Flags.packedBits, getElem_flagBit]

theorem Flags.toNat_pack (f : Flags) (b : Bool) :
    (f.pack b).toNat = 128 * f.n.toNat + 64 * f.v.toNat + 32 + 16 * b.toNat + 8 * f.d.toNat + 4 * f.i.toNat +
      2 * f.z.toNat + f.c.toNat := by
  obtain ⟨c, z, i, d, v, n⟩ := f
  revert c z i d v n b
  decide

/-- Unpacking reads the six flags' own bits, so bits 5 and 4 of the byte are lost. -/
theorem Flags.pack_unpack (v : Byte) (b : Bool) :
    (Flags.unpack v).pack b = (v &&& 0xCF) ||| 0x20 ||| (if b then 0x10 else 0x00) := by
  apply BitVec.eq_of_getElem_eq
  intro k hk
  rw [Flags.getElem_pack _ _ hk]
  cases b <;> interval_cases k <;> simp [Flags.packedBits, Flags.unpack]

theorem Flags.unpack_pack (f : Flags) (b : Bool) : Flags.unpack (f.pack b) = f := by
  simp [Flags.unpack, Flags.getElem_pack, Flags.packedBits]

/-- Settles O51, from the bits of the packed status. -/
theorem statusPacksAndUnpacks : Obligations.StatusPacksAndUnpacks :=
  ⟨Flags.toNat_pack, Flags.pack_unpack, Flags.unpack_pack⟩

end Sys2Proof.Machine
end

section
/-! What a step can do to the state, said once: changes of the processor's own items, and bus writes. -/

namespace Sys2Proof.Machine

/-! ### The shape of every instruction, for the mnemonics that Laws/Exec leaves out -/

/-- The effect of an instruction without an operand. -/
def impliedEffect : Mnemonic → Option (State → State)
  | .TAX => some fun s => writeX s.a s
  | .TAY => some fun s => writeY s.a s
  | .TXA => some fun s => writeA s.x s
  | .TYA => some fun s => writeA s.y s
  | .TSX => some fun s => writeX s.sp s
  | .TXS => some fun s => s.setSp s.x
  | .INX => some fun s => writeX (s.x + 1) s
  | .INY => some fun s => writeY (s.y + 1) s
  | .DEX => some fun s => writeX (s.x - 1) s
  | .DEY => some fun s => writeY (s.y - 1) s
  | .RTS => some returnFromCall
  | .PHA => some fun s => push s.a s
  | .PHP => some fun s => push (s.flags.pack true) s
  | .PLA => some pullA
  | .PLP => some pullStatus
  | .BRK => some softwareInterrupt
  | .RTI => some returnFromInterrupt
  | .CLC => some fun s => s.setFlags { s.flags with c := false }
  | .SEC => some fun s => s.setFlags { s.flags with c := true }
  | .CLI => some fun s => s.setFlags { s.flags with i := false }
  | .SEI => some fun s => s.setFlags { s.flags with i := true }
  | .CLD => some fun s => s.setFlags { s.flags with d := false }
  | .SED => some fun s => s.setFlags { s.flags with d := true }
  | .CLV => some fun s => s.setFlags { s.flags with v := false }
  | .NOP => some fun s => s
  | _ => none

/-- The condition of a branch. -/
def branchCondition : Mnemonic → Option (Flags → Bool)
  | .BCC => some fun f => !f.c
  | .BCS => some fun f => f.c
  | .BEQ => some fun f => f.z
  | .BNE => some fun f => !f.z
  | .BMI => some fun f => f.n
  | .BPL => some fun f => !f.n
  | .BVC => some fun f => !f.v
  | .BVS => some fun f => f.v
  | _ => none

/-- The effect of an instruction that transfers control to an effective address. -/
def jumpEffect : Mnemonic → Option (Word → State → State)
  | .JMP => some jumpTo
  | .JSR => some callTo
  | _ => none

/-- The shapes an instruction's meaning can have, each with the effect of its mnemonic. -/
inductive ExecShape (i : Instr) : Prop
  | imm (v : Byte) (f : Byte → State → State) (hf : readEffect i.mnemonic = some f)
      (he : ∀ s, exec i s = runImm i.opcode v f s)
  | read (m : MemOperand) (f : Byte → State → State) (hf : readEffect i.mnemonic = some f)
      (he : ∀ s, exec i s = runRead i.opcode m f s)
  | store (m : MemOperand) (src : State → Byte) (hf : storeSource i.mnemonic = some src)
      (he : ∀ s, exec i s = runStore i.opcode m src s)
  | modifyAcc (f : Byte → Flags → AluResult) (hf : modifyEffect i.mnemonic = some f)
      (he : ∀ s, exec i s = runModifyAcc i.opcode f s)
  | modify (m : MemOperand) (f : Byte → Flags → AluResult) (hf : modifyEffect i.mnemonic = some f)
      (he : ∀ s, exec i s = runModify i.opcode m f s)
  | implied (f : State → State) (hf : impliedEffect i.mnemonic = some f)
      (he : ∀ s, exec i s = runImplied i.opcode f s)
  | branch (d : Byte) (c : Flags → Bool) (hf : branchCondition i.mnemonic = some c)
      (he : ∀ s, exec i s = runBranch i.opcode d (c s.flags) s)
  | jump (m : MemOperand) (f : Word → State → State) (hf : jumpEffect i.mnemonic = some f)
      (he : ∀ s, exec i s = runJump i.opcode m f s)
  | ill (hf : i.mnemonic = .ILL) (he : ∀ s, exec i s = .next (halt s))

theorem exec_eq_runImplied {i : Instr} {f : State → State} (hf : impliedEffect i.mnemonic = some f) (s : State) :
    exec i s = runImplied i.opcode f s := by
  cases i <;> cases hf <;> rfl

theorem exec_eq_runBranch {i : Instr} {c : Flags → Bool} (hf : branchCondition i.mnemonic = some c) :
    ∃ d, ∀ s, exec i s = runBranch i.opcode d (c s.flags) s := by
  cases i <;> cases hf <;> exact ⟨_, fun _ => rfl⟩

theorem exec_eq_runJump {i : Instr} {f : Word → State → State} (hf : jumpEffect i.mnemonic = some f) :
    ∃ m, ∀ s, exec i s = runJump i.opcode m f s := by
  cases i <;> cases hf <;> exact ⟨_, fun _ => rfl⟩

theorem exec_of_ill {i : Instr} (h : i.mnemonic = .ILL) (s : State) : exec i s = .next (halt s) := by
  cases i <;> cases h
  rfl

/-- The effects leave no mnemonic out but ILL. -/
theorem eq_ILL_of_no_effect {n : Mnemonic} (hr : readEffect n = none) (hw : storeSource n = none)
    (ha : modifyEffect n = none) (hi : impliedEffect n = none) (hb : branchCondition n = none)
    (hj : jumpEffect n = none) : n = .ILL := by
  cases n <;> simp_all [readEffect, storeSource, modifyEffect, impliedEffect, branchCondition, jumpEffect]

theorem execShape (i : Instr) : ExecShape i := by
  cases hr : readEffect i.mnemonic with
  | some f =>
    rcases operand_of_readEffect hr with ⟨v, hv⟩ | ⟨m, hm⟩
    · exact .imm v f hr (exec_eq_runImm hr hv)
    · exact .read m f hr (exec_eq_runRead hr hm)
  | none =>
  cases hw : storeSource i.mnemonic with
  | some src =>
    obtain ⟨⟨m, hm⟩, -⟩ := operand_of_storeSource hw
    exact .store m src hw (exec_eq_runStore hw hm)
  | none =>
  cases ha : modifyEffect i.mnemonic with
  | some f =>
    rcases operand_of_modifyEffect ha with hacc | ⟨m, hm⟩
    · exact .modifyAcc f ha (exec_eq_runModifyAcc ha hacc)
    · exact .modify m f ha (exec_eq_runModify ha hm)
  | none =>
  cases hi : impliedEffect i.mnemonic with
  | some f => exact .implied f hi (exec_eq_runImplied hi)
  | none =>
  cases hb : branchCondition i.mnemonic with
  | some c =>
    obtain ⟨d, hd⟩ := exec_eq_runBranch hb
    exact .branch d c hb hd
  | none =>
  cases hj : jumpEffect i.mnemonic with
  | some f =>
    obtain ⟨m, hm⟩ := exec_eq_runJump hj
    exact .jump m f hj hm
  | none =>
    have hill := eq_ILL_of_no_effect hr hw ha hi hb hj
    exact .ill hill (exec_of_ill hill)

/-! ### The relation -/

/-- The state with the processor's own items blanked: what is left, a step changes by bus writes alone. -/
def State.external (s : State) : State :=
  { s with
    a := 0, x := 0, y := 0, sp := 0, pc := 0, flags := Flags.reset, halted := false, cycles := 0
    nmiPending := false, irqPending := false, draws := 0 }

/-- `t` comes from `s` by changes of the processor's own items and by bus writes. -/
inductive Evolves : State → State → Prop
  | internal {s t : State} (h : t.external = s.external) : Evolves s t
  | write (addr : Word) (v : Byte) (s : State) : Evolves s (busWrite addr v s)
  | trans {s t u : State} (h₁ : Evolves s t) (h₂ : Evolves t u) : Evolves s u

theorem Evolves.refl (s : State) : Evolves s s := .internal rfl

theorem Evolves.setPc {s t : State} (h : Evolves s t) (w : Word) : Evolves s (t.setPc w) := h.trans (.internal rfl)

theorem Evolves.setFlags {s t : State} (h : Evolves s t) (f : Flags) : Evolves s (t.setFlags f) :=
  h.trans (.internal rfl)

theorem Evolves.charge {s t : State} (h : Evolves s t) (n : Nat) : Evolves s (charge n t) := h.trans (.internal rfl)

theorem Evolves.push {s t : State} (h : Evolves s t) (v : Byte) : Evolves s (push v t) :=
  (h.trans (.write (stackAddr t.sp) v t)).trans (.internal rfl)

variable (s : State)

/-! ### The operations -/

theorem busRead_evolves (addr : Word) : Evolves s (busRead addr s).st := by
  obtain ⟨n, hn⟩ := busRead_st s addr
  exact .internal (by rw [hn]; rfl)

theorem read16_evolves (addr : Word) : Evolves s (read16 addr s).st := by
  obtain ⟨n, hn⟩ := read16_st s addr
  exact .internal (by rw [hn]; rfl)

theorem effAddr_evolves (m : MemOperand) : Evolves s (effAddr m s).st := by
  obtain ⟨n, hn⟩ := effAddr_st s m
  exact .internal (by rw [hn]; rfl)

theorem fetchInstr_evolves : Evolves s (fetchInstr s).st := by
  obtain ⟨k, n, hn⟩ := fetchInstr_st s
  exact .internal (by rw [hn]; rfl)

theorem pull_evolves : Evolves s (pull s).st := by
  obtain ⟨n, hn⟩ := pull_st s
  exact .internal (by rw [hn]; rfl)

theorem pushWord_evolves (w : Word) : Evolves s (pushWord w s) :=
  ((Evolves.refl s).push (hiByte w)).push (loByte w)

theorem pullWord_evolves : Evolves s (pullWord s).st :=
  .trans (pull_evolves s) (pull_evolves _)

theorem takeInterrupt_evolves (ret : Word) (brk : Bool) (vector : Word) : Evolves s (takeInterrupt ret brk vector s) :=
  have saved := (pushWord_evolves s ret).push ((pushWord ret s).flags.pack brk)
  ((saved.setFlags _).trans (read16_evolves _ vector)).setPc _

theorem enterInterrupt_evolves (kind : InterruptKind) : Evolves s (enterInterrupt kind s) :=
  takeInterrupt_evolves s s.pc false kind.vector

theorem returnFromInterrupt_evolves : Evolves s (returnFromInterrupt s) :=
  (((pull_evolves s).setFlags _).trans (pullWord_evolves _)).setPc _

theorem serviceInterrupts_evolves : Evolves s (serviceInterrupts s) := by
  have nmiCleared : Evolves s (s.setNmi false) := .internal rfl
  have irqCleared : Evolves s (s.setIrq false) := .internal rfl
  unfold serviceInterrupts
  split_ifs
  · exact (nmiCleared.trans (enterInterrupt_evolves _ .nmi)).charge 7
  · exact (irqCleared.trans (enterInterrupt_evolves _ .irq)).charge 7
  · exact .refl s

/-! ### The effects of the mnemonics -/

theorem readEffect_evolves {n : Mnemonic} {f : Byte → State → State} (hf : readEffect n = some f) (v : Byte) :
    Evolves s (f v s) := by
  cases n <;> cases hf <;> exact .internal rfl

theorem jumpEffect_evolves {n : Mnemonic} {f : Word → State → State} (hf : jumpEffect n = some f) (w : Word) :
    Evolves s (f w s) := by
  cases n <;> cases hf
  case JMP => exact .internal rfl
  case JSR => exact (pushWord_evolves s _).setPc w

theorem impliedEffect_evolves {n : Mnemonic} {f : State → State} (hf : impliedEffect n = some f) :
    Evolves s (f s) := by
  cases n <;> cases hf
  case RTS => exact (pullWord_evolves s).setPc _
  case PHA | PHP => exact (Evolves.refl s).push _
  case PLA => exact (pull_evolves s).trans (.internal rfl)
  case PLP => exact (pull_evolves s).setFlags _
  case BRK => exact takeInterrupt_evolves s _ _ _
  case RTI => exact returnFromInterrupt_evolves s
  all_goals exact .internal rfl

/-! ### Instructions and steps -/

/-- An instruction's meaning answers a next state, which evolves from its own. -/
theorem exec_evolves (i : Instr) : ∃ t, exec i s = .next t ∧ Evolves s t := by
  cases execShape i with
  | imm v f hf he => exact ⟨_, he s, (readEffect_evolves s hf v).charge _⟩
  | read m f hf he =>
    have loaded := (effAddr_evolves s m).trans (busRead_evolves _ (effAddr m s).val.addr)
    exact ⟨_, he s, (loaded.trans (readEffect_evolves _ hf _)).charge _⟩
  | store m src hf he => exact ⟨_, he s, ((effAddr_evolves s m).trans (.write _ _ _)).charge _⟩
  | modifyAcc f hf he => exact ⟨_, he s, .internal rfl⟩
  | modify m f hf he =>
    have loaded := (effAddr_evolves s m).trans (busRead_evolves _ (effAddr m s).val.addr)
    exact ⟨_, he s, ((loaded.trans (.write _ _ _)).setFlags _).charge _⟩
  | implied f hf he => exact ⟨_, he s, (impliedEffect_evolves s hf).charge _⟩
  | branch d c hf he => exact ⟨_, he s, .internal (by cases c s.flags <;> rfl)⟩
  | jump m f hf he =>
    exact ⟨_, he s, ((effAddr_evolves s m).trans (jumpEffect_evolves _ hf _)).charge _⟩
  | ill hf he => exact ⟨_, he s, .internal rfl⟩

variable {s}

theorem step_evolves {t : State} (h : step s = .next t) : Evolves s t := by
  unfold step at h
  split_ifs at h
  · cases h
    exact .refl s
  · cases h
    exact .refl s
  · have fetched := (serviceInterrupts_evolves s).trans (fetchInstr_evolves _)
    obtain ⟨u, hu, ev⟩ := exec_evolves (fetchInstr (serviceInterrupts s)).st (fetchInstr (serviceInterrupts s)).val
    cases hu.symm.trans h
    exact fetched.trans ev

end Sys2Proof.Machine
end

section
/-! No operation writes a parameter of the block (O17). -/

namespace Sys2Proof.Machine

/-- The parameters that are fields of the state: the ROM images, the window table and the WSYNC register (log 1). -/
def State.parameters (s : State) : Memory × Memory × List ChipWindow × ChipReg :=
  (s.osRom, s.basicRom, s.chipWindows, s.wsyncReg)

theorem busWrite_parameters (addr : Word) (v : Byte) (s : State) : (busWrite addr v s).parameters = s.parameters := by
  simp [State.parameters]

theorem Evolves.parameters_eq {s t : State} (h : Evolves s t) : t.parameters = s.parameters := by
  induction h with
  | @internal s t h =>
    have hp : t.external.parameters = s.external.parameters := by rw [h]
    exact hp
  | write addr v s => exact busWrite_parameters addr v s
  | trans _ _ ih₁ ih₂ => exact ih₂.trans ih₁

theorem hostReset_parameters (s : State) : (hostReset s).parameters = s.parameters :=
  (read16_evolves _ 0xFFFC).parameters_eq

theorem HostOp.run_parameters {op : HostOp} {s t : State} (h : op.run s = .next t) : t.parameters = s.parameters := by
  cases op with
  | step => exact (step_evolves h).parameters_eq
  | reset =>
    cases h
    exact hostReset_parameters s
  | read addr =>
    cases h
    exact (busRead_evolves s addr).parameters_eq
  | write addr v =>
    cases h
    exact busWrite_parameters addr v s
  | tick | raiseNmi | raiseIrq | setBank | setState =>
    cases h
    rfl

/-- Settles O17: a step evolves by bus writes and changes of the processor's own items, and no other operation of
the host names a parameter. -/
theorem operationsKeepParameters : Obligations.OperationsKeepParameters := by
  intro op s t h
  simpa only [State.parameters, Prod.mk.injEq] using HostOp.run_parameters h

end Sys2Proof.Machine
end

section
/-! How an address resolves, one lemma per region, and the statements about the decoder (O19, O20). -/

namespace Sys2Proof.Machine

variable {s : State} {addr : Word}

theorem State.region_of_window {w : ChipWindow} (h : s.windowOf (hiByte addr) = some w) :
    s.region addr = .window w.device (windowIndex w (loByte addr)) := by
  simp only [State.region, h]

theorem State.region_of_basicRom (h : s.windowOf (hiByte addr) = none) (hlo : 0xA000 ≤ addr.toNat)
    (hhi : addr.toNat ≤ 0xBFFF) (hb : s.basicEnabled = true) : s.region addr = .basicRom (addr.toNat - 0xA000) := by
  simp only [State.region, h]
  rw [if_pos ⟨hlo, hhi, hb⟩]

theorem State.region_of_osRom (h : s.windowOf (hiByte addr) = none) (hlo : 0xC000 ≤ addr.toNat)
    (ho : s.osEnabled = true) : s.region addr = .osRom (addr.toNat - 0xC000) := by
  simp only [State.region, h]
  rw [if_neg (by omega), if_pos ⟨hlo, ho⟩]

theorem State.region_of_ram (h : s.windowOf (hiByte addr) = none)
    (hr : addr.toNat < 0xA000 ∨ (addr.toNat < 0xC000 ∧ s.basicEnabled = false) ∨
      (0xC000 ≤ addr.toNat ∧ s.osEnabled = false)) : s.region addr = .ram addr := by
  have hbasic : ¬(0xA000 ≤ addr.toNat ∧ addr.toNat ≤ 0xBFFF ∧ s.basicEnabled = true) := by
    rintro ⟨hlo, hhi, hb⟩
    simp only [hb, Bool.true_eq_false, and_false, false_or] at hr
    omega
  have hos : ¬(0xC000 ≤ addr.toNat ∧ s.osEnabled = true) := by
    rintro ⟨hlo, ho⟩
    simp only [ho, Bool.true_eq_false, and_false, or_false] at hr
    omega
  simp only [State.region, h, if_neg hbasic, if_neg hos]

/-- No legal window covers a page below 0xA0, and the ROMs begin at 0xA000 (R64). -/
theorem State.region_low (h : s.windowsLegal = true) (ha : addr.toNat < 0xA000) : s.region addr = .ram addr :=
  State.region_of_ram (State.windowOf_low h (by rw [toNat_hiByte]; omega)) (.inl ha)

/-- Settles O19: one lemma per region. -/
theorem regionPriority : Obligations.RegionPriority := fun _ _ =>
  ⟨fun _ => State.region_of_window, State.region_of_basicRom, State.region_of_osRom, State.region_of_ram⟩

/-- Settles O20: a legal window table has no page below 0xA0. -/
theorem belowA000IsRam : Obligations.BelowA000IsRam := fun _ _ => State.region_low

end Sys2Proof.Machine
end

section
/-! What a bus write does, by region: ROM discards it, RAM keeps it, a device has its few effects (O22, O25). -/

namespace Sys2Proof.Machine

variable {s : State} {addr : Word}

theorem busWrite_of_rom {off : Nat} (h : s.region addr = .osRom off ∨ s.region addr = .basicRom off) (v : Byte) :
    busWrite addr v s = s := by
  rcases h with h | h <;> simp only [busWrite, h]

theorem busWrite_of_ram (h : s.region addr = .ram addr) (v : Byte) :
    busWrite addr v s = s.setRam (s.ram.write addr.toNat v) := by
  simp only [busWrite, h]

theorem busWrite_of_window {dev : Device} {idx : Byte} (h : s.region addr = .window dev idx) (v : Byte) :
    busWrite addr v s = deviceWrite dev idx v s := by
  simp only [busWrite, h]

@[simp] theorem State.windowOf_setBank (os basic : Bool) (page : Byte) :
    (setBank os basic s).windowOf page = s.windowOf page := rfl

/-- With both banks off, an address outside the windows is its RAM cell. -/
theorem State.region_banks_off (h : s.windowOf (hiByte addr) = none) :
    (setBank false false s).region addr = .ram addr := by
  rcases Nat.lt_or_ge addr.toNat 0xC000 with hlt | hge
  · exact State.region_of_ram h (.inr (.inl ⟨hlt, rfl⟩))
  · exact State.region_of_ram h (.inr (.inr ⟨hge, rfl⟩))

/-- With both banks on, an address from 0xA000 up outside the windows is ROM. -/
theorem State.region_banks_on (h : s.windowOf (hiByte addr) = none) (ha : 0xA000 ≤ addr.toNat) :
    ∃ off, (setBank true true s).region addr = .osRom off ∨ (setBank true true s).region addr = .basicRom off := by
  rcases Nat.lt_or_ge addr.toNat 0xC000 with hlt | hge
  · exact ⟨_, .inr (State.region_of_basicRom h ha (by omega) rfl)⟩
  · exact ⟨_, .inl (State.region_of_osRom h hge rfl)⟩

/-- Settles O22: with the banks on the address is ROM and the write is lost, so with them off again the cell reads what
was written to it. -/
theorem romWriteDiscardedRamPersists : Obligations.RomWriteDiscardedRamPersists := by
  refine ⟨fun s addr v off h => busWrite_of_rom h v, fun s addr v w hs hw ha => ?_⟩
  intro off on
  have hoff : off = (setBank false false s).setRam (s.ram.write addr.toNat v) :=
    busWrite_of_ram (State.region_banks_off hw) v
  have hwoff : off.windowOf (hiByte addr) = none := by
    rw [hoff]
    exact hw
  have hon : on = setBank true true off := by
    obtain ⟨_, hrom⟩ := State.region_banks_on hwoff ha
    exact busWrite_of_rom hrom w
  have hback : setBank false false on = off := by
    rw [hon, hoff]
    rfl
  have hread : (busRead addr off).val = v := by
    have hram : off.region addr = .ram addr := by
      rw [hoff]
      exact State.region_banks_off hw
    rw [busRead_of_ram hram, hoff]
    exact Memory.read_write_same hs.ram_wf _ v
  exact ⟨hon, hread, hback.symm ▸ hread⟩

/-- The effects of R72 as one update. -/
theorem applyEffect_eq (e : WriteEffect) : applyEffect e s = { s with
    stall := s.stall || e.stall
    nmiPending := s.nmiPending || e.nmi
    irqPending := s.irqPending || e.irq
    osEnabled := e.osBank.getD s.osEnabled
    basicEnabled := e.basicBank.getD s.basicEnabled } := rfl

/-- Settles O25: the WSYNC write sets the stall, and every other write has the effects the device environment gives. -/
theorem deviceWriteEffectsAreLimited : Obligations.DeviceWriteEffectsAreLimited := by
  intro s addr v dev idx h
  rw [busWrite_of_window h, deviceWrite]
  split
  · refine ⟨true, false, false, s.osEnabled, s.basicEnabled, s.draws, ?_⟩
    simp only [Bool.or_true, Bool.or_false]
    rfl
  · rw [applyEffect_eq]
    exact ⟨_, _, _, _, _, s.draws + 1, rfl⟩

end Sys2Proof.Machine
end

section
/-! The address of the second byte of a two-byte read (O27). -/

namespace Sys2Proof.Machine

theorem getElem_mkWord (hi lo : Byte) {k : Nat} (hk : k < 16) :
    (mkWord hi lo)[k] = if h : k < 8 then lo[k] else hi[k - 8] := BitVec.getElem_append hk

/-- The masks of R76 take the high byte of one word and the low byte of the other. -/
theorem pageMask_or_offsetMask (a b : Word) : (a &&& 0xFF00) ||| (b &&& 0x00FF) = mkWord (hiByte a) (loByte b) := by
  apply BitVec.eq_of_getElem_eq
  intro k hk
  rw [getElem_mkWord]
  interval_cases k <;> simp [hiByte, loByte]

theorem nextInPage_eq_mkWord (a : Word) : nextInPage a = mkWord (hiByte a) (loByte (a + 1)) :=
  pageMask_or_offsetMask a (a + 1)

theorem toNat_nextInPage (a : Word) : (nextInPage a).toNat = 256 * (a.toNat / 256) + (a.toNat + 1) % 256 := by
  rw [nextInPage_eq_mkWord, toNat_mkWord, toNat_hiByte, toNat_loByte]
  bv_omega

theorem nextInPage_of_ne_pageEnd {a : Word} (h : a.toNat % 256 ≠ 255) : nextInPage a = a + 1 := by
  apply BitVec.eq_of_toNat_eq
  rw [toNat_nextInPage]
  bv_omega

theorem nextInPage_of_pageEnd {a : Word} (h : a.toNat % 256 = 255) :
    nextInPage a = BitVec.ofNat 16 (a.toNat - 255) := by
  apply BitVec.eq_of_toNat_eq
  rw [toNat_nextInPage]
  bv_omega

/-- Settles O27: inside a page the next address in it is the next address, and at its end the start of the page. -/
theorem pageReadWrapsOnlyAtPageEnd : Obligations.PageReadWrapsOnlyAtPageEnd := by
  intro s a
  refine ⟨?_, fun h => ?_, fun h => ?_⟩
  · have hnext : BitVec.ofNat 16 ((a.toNat + 1) % 65536) = a + 1 := by bv_omega
    rw [hnext]
    rfl
  · rw [read16Page, nextInPage_of_ne_pageEnd h]
    rfl
  · rw [← nextInPage_of_pageEnd h]
    rfl

end Sys2Proof.Machine
end

section
/-! Push and pull on the stack page (O28). -/

namespace Sys2Proof.Machine

/-- A pull after a push: the byte pushed and SP as before. -/
theorem pull_push {s : State} (h : s.Inv) (v : Byte) :
    (pull (push v s)).val = v ∧ (pull (push v s)).st.sp = s.sp := by
  rw [push_spec h.windows, pull_spec (by exact h.windows)]
  simp only [BitVec.sub_add_cancel, Memory.read_write_same h.ram_wf, and_self]

/-- Settles O28: the stack page is RAM under a legal window table. -/
theorem pushAndPullUseStackPage : Obligations.PushAndPullUseStackPage := by
  intro s v h
  have hcell : stackCell (s.sp + 1) = 0x100 + (s.sp.toNat + 1) % 256 := by rw [stackCell, BitVec.toNat_add]; rfl
  refine ⟨push_spec h.windows v, ?_, pull_push h v⟩
  rw [pull_spec h.windows, hcell]

end Sys2Proof.Machine
end

section
/-! Three bytes are enough for any opcode, and the opcode map's undocumented cells are R105's list (O4). -/

namespace Sys2Proof

theorem Mode.operandBytes_le_two (m : Mode) : m.operandBytes ≤ 2 := by
  cases m <;> decide

/-- Two bytes after the opcode are enough for any mode (R100, R101). -/
theorem exists_decode_eq_instrOf (op b1 b2 : Byte) (rest : List Byte) :
    ∃ (o1 o2 : Byte) (rest' : List Byte), decode (op :: b1 :: b2 :: rest) = .ok (instrOf op o1 o2, rest') := by
  have hle := (entry op).mode.operandBytes_le_two
  simp only [decode]
  generalize (entry op).mode.operandBytes = n at hle
  match n, hle with
  | 0, _ => exact ⟨_, _, _, rfl⟩
  | 1, _ => exact ⟨_, _, _, rfl⟩
  | 2, _ => exact ⟨_, _, _, rfl⟩

theorem Instr.eq_ill_of_mnemonic {i : Instr} (h : i.mnemonic = .ILL) : i = .ill i.opcode := by
  cases i with
  | ill op => rfl
  | _ => cases h

/-- A well-formed instruction with the mnemonic `ILL` has a value of R105's list as its opcode. -/
theorem Instr.opcode_mem_undocumented {i : Instr} (hw : i.wf = true) (h : i.mnemonic = .ILL) :
    i.opcode ∈ undocumented := by
  rw [Instr.eq_ill_of_mnemonic h] at hw
  exact List.contains_iff_mem.1 hw

theorem entry_of_undocumented : ∀ op ∈ undocumented, entry op = rowIll := by
  decide

/-- Settles O4: any opcode decodes to its cell of the opcode map, which is well-formed and has the table's mnemonic. -/
theorem everyOpcodeValueDecodes : Obligations.EveryOpcodeValueDecodes := by
  intro op b1 b2 rest
  obtain ⟨o1, o2, rest', hdec⟩ := exists_decode_eq_instrOf op b1 b2 rest
  obtain ⟨hop, hmnem, -, hwf⟩ := instrOf_spec op o1 o2
  refine ⟨_, rest', hdec, hop, fun hill => ?_, fun hmem => ?_⟩
  · have hund := Instr.opcode_mem_undocumented hwf hill
    rwa [hop] at hund
  · rw [hmnem, entry_of_undocumented op hmem]
    rfl

end Sys2Proof
end

section
/-! What a step answers, by the mode of the state (O7, O9, O10). -/

namespace Sys2Proof.Machine

variable {s : State}

/-! ### The modes of a step -/

theorem step_of_indeterminate (hu : s.unset ≠ []) : step s = .refused .indeterminate := by
  rw [step, if_pos hu]

theorem step_of_halted (hu : s.unset = []) (hh : s.halted = true) : step s = .next s := by
  simp only [step, hu, hh, ne_eq, not_true_eq_false, if_true, if_false]

theorem step_of_stalled (hu : s.unset = []) (hs : s.stall = true) : step s = .next s := by
  simp only [step, hu, hs, ne_eq, not_true_eq_false, if_true, if_false, ite_self]

/-- A step that leaves the state as it is returns 0 (R138). -/
theorem stepReturn_of_idle (h : step s = .next s) : stepReturn s = some 0 := by
  simp only [stepReturn, h, Nat.sub_self]

/-- Halted and stalled steps answer their own state, and every other one the state an instruction answers. -/
theorem exists_step_eq_next (hu : s.unset = []) : ∃ t, step s = .next t := by
  cases hh : s.halted with
  | true => exact ⟨s, step_of_halted hu hh⟩
  | false =>
    cases hs : s.stall with
    | true => exact ⟨s, step_of_stalled hu hs⟩
    | false =>
      obtain ⟨t, ht, -⟩ := exec_evolves (fetchInstr (serviceInterrupts s)).st (fetchInstr (serviceInterrupts s)).val
      exact ⟨t, (step_of_ready ⟨hu, hh, hs⟩).trans ht⟩

theorem step_eq_refused_iff : step s = .refused .indeterminate ↔ s.unset ≠ [] := by
  refine ⟨fun href hu => ?_, step_of_indeterminate⟩
  obtain ⟨t, ht⟩ := exists_step_eq_next hu
  cases ht.symm.trans href

/-! ### The operations that give items their values -/

theorem read16_unset (addr : Word) (s : State) : (read16 addr s).st.unset = s.unset := by
  obtain ⟨n, hn⟩ := read16_st s addr
  rw [hn, State.setDraws_unset]

/-- The vector is read from the state that has every value (R400). -/
theorem hostReset_unset (s : State) : (hostReset s).unset = [] := by
  rw [hostReset]
  exact read16_unset 0xFFFC _

theorem setState_unset_eq_nil_iff (p : Patch) (s : State) :
    (setState p s).unset = [] ↔ ∀ k ∈ s.unset, p.names k = true := by
  simp only [setState, List.filter_eq_nil_iff, Bool.not_eq_true', Bool.not_eq_false]

/-! ### The statements -/

/-- Settles O7: the halted mode is asked before the interrupt check. -/
theorem haltedStepChangesNothing : Obligations.HaltedStepChangesNothing := fun _ hu hh =>
  have idle := step_of_halted hu hh
  ⟨idle, stepReturn_of_idle idle⟩

/-- Settles O9: a determinate state has a next one, so only an indeterminate item refuses. -/
theorem indeterminateStepRefused : Obligations.IndeterminateStepRefused :=
  ⟨fun _ => step_eq_refused_iff, hostReset_unset, setState_unset_eq_nil_iff⟩

/-- Settles O10: every shape of instruction answers a next state, and with it every mode of a step. -/
theorem everyInstructionAndStepCompletes : Obligations.EveryInstructionAndStepCompletes := by
  refine ⟨fun i s => ?_, fun _ => exists_step_eq_next⟩
  obtain ⟨t, ht, -⟩ := exec_evolves s i
  exact ⟨t, ht⟩

end Sys2Proof.Machine
end

section
/-! Interrupt entry keeps the mode of the state, and the stalled mode ends by the tick or a reset alone (O8). -/

namespace Sys2Proof.Machine

variable {s : State}

/-! ### Interrupt entry -/

/-- What interrupt entry leaves unchanged and what it sets, of the items a step asks before its fetch: under a legal
window table the pushes go to RAM, so no device write stands among its accesses. -/
theorem enterInterrupt_modes (hw : s.windowsLegal = true) (kind : InterruptKind) :
    (enterInterrupt kind s).unset = s.unset ∧ (enterInterrupt kind s).halted = s.halted ∧
    (enterInterrupt kind s).stall = s.stall ∧ (enterInterrupt kind s).nmiPending = s.nmiPending ∧
    (enterInterrupt kind s).flags.i = true := by
  obtain ⟨saved, hsaved, hentry⟩ := takeInterrupt_spec hw s.pc false kind.vector
  obtain ⟨n, hn⟩ := read16_st saved kind.vector
  rw [enterInterrupt, hentry, hn, hsaved]
  exact ⟨rfl, rfl, rfl, rfl, rfl⟩

theorem enterInterrupt_ready (hw : s.windowsLegal = true) (h : s.Ready) (kind : InterruptKind) :
    (enterInterrupt kind s).Ready := by
  obtain ⟨hunset, hhalted, hstall, -, -⟩ := enterInterrupt_modes hw kind
  exact ⟨hunset.trans h.determinate, hhalted.trans h.running, hstall.trans h.unstalled⟩

/-- Entry sets I, so with no NMI pending no second entry is due. -/
theorem enterInterrupt_undisturbed (hw : s.windowsLegal = true) (hn : s.nmiPending = false) (kind : InterruptKind) :
    (enterInterrupt kind s).Undisturbed := by
  obtain ⟨-, -, -, hnmi, hi⟩ := enterInterrupt_modes hw kind
  exact ⟨hnmi.trans hn, .inr hi⟩

theorem State.Ready.charge (h : s.Ready) (n : Nat) : (charge n s).Ready := ⟨h.determinate, h.running, h.unstalled⟩

theorem serviceInterrupts_of_nmi (hn : s.nmiPending = true) :
    serviceInterrupts s = charge 7 (enterInterrupt .nmi (s.setNmi false)) := by
  simp only [serviceInterrupts, hn, if_true]

theorem serviceInterrupts_of_irq (hn : s.nmiPending = false) (hirq : s.irqPending = true) (hi : s.flags.i = false) :
    serviceInterrupts s = charge 7 (enterInterrupt .irq (s.setIrq false)) := by
  simp only [serviceInterrupts, hn, hirq, hi, Bool.not_false, Bool.and_self, Bool.false_eq_true, if_true, if_false]

/-- Where the interrupt check enters an interrupt, the step is the step of the state that has entered it: `u` is the
state with the latch cleared. -/
theorem step_of_interrupt_entry {u : State} {kind : InterruptKind} (h : s.Ready)
    (hs : serviceInterrupts s = charge 7 (enterInterrupt kind u)) (hw : u.windowsLegal = true) (hu : u.Ready)
    (hn : u.nmiPending = false) : step s = step (charge 7 (enterInterrupt kind u)) := by
  have calm : (charge 7 (enterInterrupt kind u)).Undisturbed := enterInterrupt_undisturbed hw hn kind
  rw [step_of_ready h, step_of_ready ((enterInterrupt_ready hw hu kind).charge 7),
    serviceInterrupts_of_undisturbed calm, hs]

/-! ### The end of the stalled mode -/

/-- A bus write never ends the stalled mode: a device write may set the stall and not clear it (R72). -/
theorem busWrite_stall_of_set (hs : s.stall = true) (addr : Word) (v : Byte) : (busWrite addr v s).stall = true := by
  rcases busWrite_cases s addr v with ⟨-, h⟩ | ⟨-, h⟩ | ⟨dev, idx, -, h⟩ <;> rw [h]
  · exact hs
  · exact hs
  · unfold deviceWrite
    split
    · rfl
    · rw [applyEffect_eq, State.setDraws_stall, hs, Bool.true_or]

/-- The operations that end the stalled mode (R145). -/
theorem HostOp.eq_tick_or_reset_of_stall_ends (hu : s.unset = []) (hs : s.stall = true) {op : HostOp} {t : State}
    (h : op.run s = .next t) (ht : t.stall = false) : op = .tick ∨ op = .reset := by
  have stays (hstall : t.stall = true) : op = .tick ∨ op = .reset := by
    rw [ht] at hstall
    cases hstall
  cases op with
  | tick => exact .inl rfl
  | reset => exact .inr rfl
  | step =>
    cases (step_of_stalled hu hs).symm.trans h
    exact stays hs
  | setState p =>
    cases h
    exact stays ((setState_stall p (by simp [hu])).trans hs)
  | read addr =>
    cases h
    obtain ⟨n, hn⟩ := busRead_st s addr
    exact stays (by rw [hn]; exact hs)
  | write addr v =>
    cases h
    exact stays (busWrite_stall_of_set hs addr v)
  | raiseNmi | raiseIrq | setBank =>
    cases h
    exact stays hs

/-- Settles O8: a stalled step does not reach the interrupt check, and the step after the tick begins with it. -/
theorem stalledStepWaitsForTick : Obligations.StalledStepWaitsForTick := by
  intro s hu hh hs
  have idle := step_of_stalled hu hs
  refine ⟨idle, stepReturn_of_idle idle, step_of_stalled hu hs, rfl, step_of_stalled hu hs, rfl,
    fun op t => HostOp.eq_tick_or_reset_of_stall_ends hu hs, fun hw => ⟨?_, fun hn hi => ?_⟩⟩
  · exact step_of_interrupt_entry ⟨hu, hh, rfl⟩ (serviceInterrupts_of_nmi rfl) hw ⟨hu, hh, rfl⟩ rfl
  · exact step_of_interrupt_entry ⟨hu, hh, rfl⟩ (serviceInterrupts_of_irq hn rfl hi) hw ⟨hu, hh, rfl⟩ hn

end Sys2Proof.Machine
end

section
/-! A bus read by region, and the bank flags it uses (O26). -/

namespace Sys2Proof.Machine

variable {s : State} {addr : Word}

theorem busRead_of_basicRom {off : Nat} (h : s.region addr = .basicRom off) :
    busRead addr s = ⟨s.basicRom.read off, s⟩ := by
  simp only [busRead, h]

theorem busRead_of_osRom {off : Nat} (h : s.region addr = .osRom off) : busRead addr s = ⟨s.osRom.read off, s⟩ := by
  simp only [busRead, h]

theorem busRead_basicRange (hw : s.windowOf (hiByte addr) = none) (hlo : 0xA000 ≤ addr.toNat)
    (hhi : addr.toNat ≤ 0xBFFF) : (busRead addr s).val =
      if s.basicEnabled then s.basicRom.read (addr.toNat - 0xA000) else s.ram.read addr.toNat := by
  cases hb : s.basicEnabled with
  | true => rw [busRead_of_basicRom (State.region_of_basicRom hw hlo hhi hb), if_pos rfl]
  | false => rw [busRead_of_ram (State.region_of_ram hw (.inr (.inl ⟨by omega, hb⟩))), if_neg Bool.false_ne_true]

theorem busRead_osRange (hw : s.windowOf (hiByte addr) = none) (hlo : 0xC000 ≤ addr.toNat) :
    (busRead addr s).val =
      if s.osEnabled then s.osRom.read (addr.toNat - 0xC000) else s.ram.read addr.toNat := by
  cases ho : s.osEnabled with
  | true => rw [busRead_of_osRom (State.region_of_osRom hw hlo ho), if_pos rfl]
  | false => rw [busRead_of_ram (State.region_of_ram hw (.inr (.inr ⟨hlo, ho⟩))), if_neg Bool.false_ne_true]

/-- Settles O26: a read uses the bank flags of its own state, and set_bank moves neither the windows nor the memories. -/
theorem bankSwitchTakesEffectAtOnce : Obligations.BankSwitchTakesEffectAtOnce := fun s os basic =>
  ⟨rfl, fun _ hw =>
    ⟨busRead_basicRange (s := setBank os basic s) hw, busRead_osRange (s := setBank os basic s) hw⟩⟩

end Sys2Proof.Machine
end

section
/-! The addressing modes without a pointer, and page crossings, in plain arithmetic (O29, O32). -/

namespace Sys2Proof.Machine

theorem zeroPage_eq_ofNat (z : Byte) : zeroPage z = BitVec.ofNat 16 z.toNat := (BitVec.ofNat_toNat 16 z).symm

theorem toNat_zeroPage (z : Byte) : (zeroPage z).toNat = z.toNat :=
  BitVec.toNat_setWidth_of_le (by decide)

theorem zeroPage_add (z i : Byte) : zeroPage (z + i) = BitVec.ofNat 16 ((z.toNat + i.toNat) % 256) := by
  rw [zeroPage_eq_ofNat, BitVec.toNat_add]

/-- A crossing is reported exactly when the two addresses differ in their page (R164). -/
theorem withCross_cross_iff (base ea : Word) :
    (withCross base ea).cross = true ↔ ea.toNat / 256 ≠ base.toNat / 256 := by
  rw [withCross, bne_iff_ne, ne_comm, Ne, ← BitVec.toNat_inj, toNat_hiByte, toNat_hiByte]

/-- An index added to an address: the sum wraps at 65536, and its page is compared with the page of the base (R158). -/
theorem withCross_add_index (a : Word) (i : Byte) :
    withCross a (a + i.setWidth 16) = ⟨BitVec.ofNat 16 (a.toNat + i.toNat),
      decide ((a.toNat + i.toNat) % 65536 / 256 ≠ a.toNat / 256)⟩ := by
  have haddr : a + i.setWidth 16 = BitVec.ofNat 16 (a.toNat + i.toNat) := by bv_omega
  have hcross : (withCross a (a + i.setWidth 16)).cross =
      decide ((a.toNat + i.toNat) % 65536 / 256 ≠ a.toNat / 256) := by
    rw [Bool.eq_iff_iff, withCross_cross_iff, decide_eq_true_iff, haddr, BitVec.toNat_ofNat]
  rw [← haddr, ← hcross]
  rfl

/-- Adding the sign-extended displacement is adding its signed value mod 65536 (R7, R163). -/
theorem toNat_add_sext16 (pc : Word) (d : Byte) :
    ((pc + sext16 d).toNat : Int) = ((pc.toNat : Int) + d.toInt) % 65536 := by
  have hd : ((sext16 d).toNat : Int) = d.toInt % 65536 := by
    rw [sext16, BitVec.signExtend, BitVec.toNat_ofInt, Int.toNat_of_nonneg (Int.emod_nonneg _ (by decide))]
    rfl
  rw [BitVec.toNat_add, Int.natCast_emod, Int.natCast_add, hd]
  exact Int.add_emod_emod _ _ _

/-- Settles O29: an index in the zero page wraps in its byte, an index to a word carries into the page. -/
theorem directModesComputeAddressAndCross : Obligations.DirectModesComputeAddressAndCross := by
  intro s z a
  refine ⟨?_, ?_, ?_, rfl, ?_, ?_⟩
  · rw [effAddr, zeroPage_eq_ofNat]
  · rw [effAddr, zeroPage_add]
  · rw [effAddr, zeroPage_add]
  · rw [effAddr, withCross_add_index]
  · rw [effAddr, withCross_add_index]

/-- Settles O32: the target is the PC plus the sign-extended displacement, and its page is compared with the PC's. -/
theorem branchTargetIsSignedOffset : Obligations.BranchTargetIsSignedOffset := fun s d =>
  ⟨toNat_add_sext16 s.pc d, withCross_cross_iff s.pc (s.pc + sext16 d)⟩

end Sys2Proof.Machine
end

section
/-! The three modes that read a pointer: in the zero page, and the indirect jump's (O30, O31). -/

namespace Sys2Proof.Machine

theorem nextInPage_zeroPage (z : Byte) : nextInPage (zeroPage z) = zeroPage (z + 1) := by
  apply BitVec.eq_of_toNat_eq
  rw [toNat_nextInPage, toNat_zeroPage, toNat_zeroPage]
  bv_omega

/-- A zero-page pointer is read from RAM and wraps in the page (R64, R76). -/
theorem read16Page_zeroPage {s : State} (h : s.windowsLegal = true) (z : Byte) :
    read16Page (zeroPage z) s = ⟨mkWord (s.ram.read ((z.toNat + 1) % 256)) (s.ram.read z.toNat), s⟩ := by
  have hread (b : Byte) : busRead (zeroPage b) s = ⟨s.ram.read b.toNat, s⟩ := by
    have hlow : (zeroPage b).toNat < 0xA000 := by rw [toNat_zeroPage]; omega
    rw [busRead_of_ram (State.region_low h hlow), toNat_zeroPage]
  have hnext : (z + 1).toNat = (z.toNat + 1) % 256 := BitVec.toNat_add z 1
  simp only [read16Page, nextInPage_zeroPage, hread, hnext]

/-- Settles O30: both modes read their pointer by read16Page_zeroPage, and differ in where the index is added. -/
theorem zeroPagePointersWrapInPage : Obligations.ZeroPagePointersWrapInPage := by
  intro s z h
  constructor
  · have hcell : (z + s.x).toNat = (z.toNat + s.x.toNat) % 256 := BitVec.toNat_add z s.x
    simp only [effAddr, read16Page_zeroPage h, hcell, Nat.mod_add_mod]
    rfl
  · simp only [effAddr, read16Page_zeroPage h, withCross_add_index]
    rfl

/-- R160's address of the high byte, as one expression for both cases. -/
theorem nextInPage_eq_ite (p : Word) :
    nextInPage p = BitVec.ofNat 16 (if p.toNat % 256 = 255 then p.toNat - 255 else p.toNat + 1) := by
  split
  case isTrue h => exact nextInPage_of_pageEnd h
  case isFalse h =>
    rw [nextInPage_of_ne_pageEnd h]
    bv_omega

/-- Settles O31: the indirect jump reads its target by Read16_page. -/
theorem indirectJumpPageBug : Obligations.IndirectJumpPageBug := by
  intro s p
  rw [← nextInPage_eq_ite]
  rfl

end Sys2Proof.Machine
end

section
/-! The instructions without an operand: their cost, and what a register written with its flags leaves (O37). -/

namespace Sys2Proof.Machine

/-- An instruction without an operand costs its base cycles: no row of one takes a penalty (R410). -/
theorem exec_of_impliedEffect {i : Instr} {f : State → State} (hf : impliedEffect i.mnemonic = some f) (s : State) :
    exec i s = .next (charge (entry i.opcode).cycles (f s)) := by
  have hp : (entry i.opcode).pageCrossPenalty = false := by cases i <;> cases hf <;> rfl
  rw [exec_eq_runImplied hf, runImplied, cost_of_fixed hp]

theorem charge_writeA (n : Nat) (v : Byte) (s : State) :
    charge n (writeA v s) = { s with a := v, flags := nz s.flags v, cycles := s.cycles + n } := by
  rw [← setNZ_eq_nz]
  rfl

theorem charge_writeX (n : Nat) (v : Byte) (s : State) :
    charge n (writeX v s) = { s with x := v, flags := nz s.flags v, cycles := s.cycles + n } := by
  rw [← setNZ_eq_nz]
  rfl

theorem charge_writeY (n : Nat) (v : Byte) (s : State) :
    charge n (writeY v s) = { s with y := v, flags := nz s.flags v, cycles := s.cycles + n } := by
  rw [← setNZ_eq_nz]
  rfl

/-- Settles O37: five transfers write their register with its flags, TXS writes SP alone. -/
theorem transfersMoveRegisters : Obligations.TransfersMoveRegisters := by
  intro s
  refine ⟨?tax, ?tay, ?txa, ?tya, ?tsx, ?txs, rfl⟩
  case tax => rw [← charge_writeX]; exact exec_of_impliedEffect (i := .tax) rfl s
  case tay => rw [← charge_writeY]; exact exec_of_impliedEffect (i := .tay) rfl s
  case txa => rw [← charge_writeA]; exact exec_of_impliedEffect (i := .txa) rfl s
  case tya => rw [← charge_writeA]; exact exec_of_impliedEffect (i := .tya) rfl s
  case tsx => rw [← charge_writeX]; exact exec_of_impliedEffect (i := .tsx) rfl s
  case txs => exact exec_of_impliedEffect (i := .txs) rfl s

end Sys2Proof.Machine
end

section
/-! An instruction that reads a byte, over the state it starts from; the compares (O44). -/

namespace Sys2Proof.Machine

/-- All the load of an operand can do to the state: move the counter of draws. -/
theorem loaded_st {i : Instr} {s : State} {l : Loaded} (h : loaded i s = some l) : ∃ n, l.st = s.setDraws n := by
  unfold loaded at h
  split at h <;> cases h
  case h_1 | h_2 => exact ⟨s.draws, rfl⟩
  case h_3 m _ =>
    obtain ⟨k, hk⟩ := effAddr_st s m
    obtain ⟨n, hn⟩ := busRead_st (effAddr m s).st (effAddr m s).val.addr
    exact ⟨n, hn.trans (by rw [hk, State.setDraws_setDraws])⟩

/-- An instruction that puts the result of an operation on A, the byte loaded and the flags into A and the flags. -/
theorem exec_of_aluEffect {i : Instr} {alu : Byte → Byte → Flags → AluResult}
    (hf : readEffect i.mnemonic = some fun m t => writeAlu (alu t.a m t.flags) t) (s : State) :
    ∃ l, loaded i s = some l ∧ exec i s = .next { l.st with
      a := (alu s.a l.val s.flags).val
      flags := (alu s.a l.val s.flags).flags
      cycles := s.cycles + l.cycles } := by
  obtain ⟨l, hl, he⟩ := exec_of_readEffect hf s
  obtain ⟨n, hn⟩ := loaded_st hl
  refine ⟨l, hl, ?_⟩
  rw [he, hn]
  rfl

/-- The flags of a compare: the difference is 0 exactly when the two bytes are equal (R219). -/
theorem compareFlags_eq (r m : Byte) (f : Flags) :
    compareFlags r m f = { f with c := decide (m.toNat ≤ r.toNat), z := decide (r = m), n := (r - m).msb } := by
  have hdiff : BitVec.ofInt 8 ((r.toNat : Int) - m.toNat) = r - m := by bv_omega
  have hz : (r - m == 0) = decide (r = m) := by rw [Bool.eq_iff_iff, beq_iff_eq, sub_eq_zero, decide_eq_true_iff]
  rw [compareFlags, hdiff, Flags.setNZ, hz]
  rfl

/-- An instruction that compares a register, which no load moves, with the byte loaded. -/
theorem exec_of_compareEffect {i : Instr} {reg : State → Byte} (hreg : ∀ (s : State) n, reg (s.setDraws n) = reg s)
    (hf : readEffect i.mnemonic = some fun m t => t.setFlags (compareFlags (reg t) m t.flags)) (s : State) :
    ∃ l, loaded i s = some l ∧ exec i s = .next { l.st with
      flags := { s.flags with
        c := decide (l.val.toNat ≤ (reg s).toNat)
        z := decide (reg s = l.val)
        n := (reg s - l.val).msb }
      cycles := s.cycles + l.cycles } := by
  obtain ⟨l, hl, he⟩ := exec_of_readEffect hf s
  obtain ⟨n, hn⟩ := loaded_st hl
  refine ⟨l, hl, ?_⟩
  rw [he, hn, hreg, compareFlags_eq]
  rfl

/-- Settles O44: the three mnemonics differ in their register alone. -/
theorem comparesSetCarryZeroNegative : Obligations.ComparesSetCarryZeroNegative := by
  rintro i s _ (⟨hi, rfl⟩ | ⟨hi, rfl⟩ | ⟨hi, rfl⟩)
  · exact exec_of_compareEffect (reg := State.a) (fun _ _ => rfl) (by rw [hi]; rfl) s
  · exact exec_of_compareEffect (reg := State.x) (fun _ _ => rfl) (by rw [hi]; rfl) s
  · exact exec_of_compareEffect (reg := State.y) (fun _ _ => rfl) (by rw [hi]; rfl) s

end Sys2Proof.Machine
end

section
/-! Binary ADC and SBC: carry and signed overflow of the sum, and SBC as ADC of the complement (O38, O41). The overflow
test is read as one of sign bits, and every fact of SBC is one of ADC's on the complement. -/

namespace Sys2Proof.Machine

theorem and_0x80_bne_zero (x : Byte) : (x &&& 0x80 != 0) = x.msb := by
  revert x
  apply forall_byte
  decide +kernel

/-- Signed overflow of a sum: both operands differ in sign from the result (R211). -/
theorem overflow_of_sum (a m : Byte) (c : Bool) :
    let r : Byte := BitVec.ofNat 8 (a.toNat + m.toNat + c.toNat)
    let signed := a.toInt + m.toInt + c.toNat
    ((a ^^^ r) &&& (m ^^^ r) &&& 0x80 != 0) = decide (signed < -128 ∨ 127 < signed) := by
  intro r signed
  have hr : r.toNat = (a.toNat + m.toNat + c.toNat) % 256 := BitVec.toNat_ofNat _ 8
  have hc : c.toNat ≤ 1 := c.toNat_le
  have hsign : a.msb ≠ r.msb ∧ m.msb ≠ r.msb ↔ signed < -128 ∨ 127 < signed := by
    simp only [signed, BitVec.toInt_eq_toNat_cond, BitVec.msb_eq_decide, ne_eq, decide_eq_decide, hr]
    omega
  rw [Bool.eq_iff_iff, and_0x80_bne_zero, BitVec.msb_and, BitVec.msb_xor, BitVec.msb_xor, decide_eq_true_iff, ← hsign,
    Bool.and_eq_true, bne_iff_ne, bne_iff_ne]

/-- `ADC_bin` in the terms of signed and unsigned ranges. -/
theorem adcBin_eq (a m : Byte) (f : Flags) :
    let sum := a.toNat + m.toNat + f.c.toNat
    let signed := a.toInt + m.toInt + f.c.toNat
    adcBin a m f = ⟨BitVec.ofNat 8 sum,
      { nz f (BitVec.ofNat 8 sum) with c := decide (256 ≤ sum), v := decide (signed < -128 ∨ 127 < signed) }⟩ := by
  intro sum signed
  rw [adcBin, setNZ_eq_nz, overflow_of_sum]
  rfl

theorem xor_0xFF_eq_not (m : Byte) : m ^^^ 0xFF = ~~~m := BitVec.xor_allOnes

theorem toNat_xor_0xFF (m : Byte) : (m ^^^ 0xFF).toNat = 255 - m.toNat := by
  rw [xor_0xFF_eq_not, BitVec.toNat_not]

theorem toInt_xor_0xFF (m : Byte) : (m ^^^ 0xFF).toInt = -1 - m.toInt := by
  rw [BitVec.toInt_eq_toNat_cond, BitVec.toInt_eq_toNat_cond, toNat_xor_0xFF]
  omega

/-- The difference, before it is narrowed, is the sum with the complement less 256. -/
theorem difference_eq_sum_sub (a m : Byte) (f : Flags) :
    difference a m f = ((a.toNat + (m ^^^ 0xFF).toNat + f.c.toNat : Nat) : Int) - 256 := by
  rw [difference, toNat_xor_0xFF]
  omega

theorem ofInt_difference (a m : Byte) (f : Flags) :
    BitVec.ofInt 8 (difference a m f) = BitVec.ofNat 8 (a.toNat + (m ^^^ 0xFF).toNat + f.c.toNat) := by
  rw [difference_eq_sum_sub]
  bv_omega

/-- There is no borrow exactly when the sum with the complement has a carry. -/
theorem difference_nonneg_iff (a m : Byte) (f : Flags) :
    0 ≤ difference a m f ↔ 256 ≤ a.toNat + (m ^^^ 0xFF).toNat + f.c.toNat := by
  rw [difference_eq_sum_sub]
  omega

/-- The overflow test of SBC is that of ADC on the complement. -/
theorem subOverflowBits_eq (a m r : Byte) : (a ^^^ m) &&& (a ^^^ r) = (a ^^^ r) &&& ((m ^^^ 0xFF) ^^^ r) := by
  have hbit (x y z : Bool) : ((x ^^ y) && (x ^^ z)) = ((x ^^ z) && (!y ^^ z)) := by
    cases x <;> cases y <;> cases z <;> rfl
  ext k hk
  simp only [xor_0xFF_eq_not, BitVec.getElem_and, BitVec.getElem_xor, BitVec.getElem_not, hbit]

/-- SBC is ADC of the operand with every bit flipped (R214). -/
theorem sbcBin_eq_adcBin_complement (a m : Byte) (f : Flags) : sbcBin a m f = adcBin a (m ^^^ 0xFF) f := by
  simp only [sbcBin, ofInt_difference, difference_nonneg_iff, subOverflowBits_eq]
  rfl

/-- `SBC_bin` in the terms of signed and unsigned ranges. -/
theorem sbcBin_eq (a m : Byte) (f : Flags) :
    let diff := difference a m f
    let signed : Int := a.toInt - m.toInt - (1 - f.c.toNat)
    sbcBin a m f = ⟨BitVec.ofInt 8 diff,
      { nz f (BitVec.ofInt 8 diff) with c := decide (0 ≤ diff), v := decide (signed < -128 ∨ 127 < signed) }⟩ := by
  intro diff signed
  have hsigned : a.toInt + (m ^^^ 0xFF).toInt + f.c.toNat = signed := by
    rw [toInt_xor_0xFF]
    omega
  simp only [sbcBin_eq_adcBin_complement, adcBin_eq, hsigned, ← ofInt_difference, ← difference_nonneg_iff, diff]

theorem adc_of_binary {a m : Byte} {f : Flags} (hd : f.d = false) : adc a m f = adcBin a m f := by
  rw [adc, hd, if_neg Bool.false_ne_true]

/-- Settles O38: with D clear ADC is ADC_bin. -/
theorem adcBinaryAdds : Obligations.AdcBinaryAdds := by
  intro i s hi hd
  obtain ⟨l, hl, he⟩ := exec_of_aluEffect (alu := adc) (by rw [hi]; rfl) s
  exact ⟨l, hl, by rw [he, adc_of_binary hd, adcBin_eq]⟩

theorem sbc_of_binary {a m : Byte} {f : Flags} (hd : f.d = false) : sbc a m f = sbcBin a m f := by
  rw [sbc, hd, if_neg Bool.false_ne_true]

/-- Settles O41: with D clear SBC is SBC_bin, and that is ADC_bin of the complement. -/
theorem sbcBinarySubtracts : Obligations.SbcBinarySubtracts := by
  refine ⟨fun i s hi hd => ?_, sbcBin_eq_adcBin_complement⟩
  obtain ⟨l, hl, he⟩ := exec_of_aluEffect (alu := sbc) (by rw [hi]; rfl) s
  exact ⟨l, hl, by rw [he, sbc_of_binary hd, sbcBin_eq]; rfl⟩

end Sys2Proof.Machine
end

section
/-! Decimal ADC and SBC: the digits of a byte, and the corrected sum and difference (O39, O42). -/

namespace Sys2Proof.Machine

theorem toNat_and_0x0F (b : Byte) : (b &&& 0x0F).toNat = b.toNat % 16 :=
  Nat.and_two_pow_sub_one_eq_mod b.toNat 4

theorem toNat_and_0xF0 (b : Byte) : (b &&& 0xF0).toNat = 16 * (b.toNat / 16) := by
  revert b
  apply forall_byte
  decide +kernel

theorem toInt_and_0xF0 (b : Byte) : (b &&& 0xF0).toInt = 16 * (b.toInt / 16) := by
  revert b
  apply forall_byte
  decide +kernel

theorem testBit_7_eq (n : Nat) : n.testBit 7 = decide (128 ≤ n % 256) := by
  rw [Nat.testBit_eq_decide_div_mod_eq, decide_eq_decide]
  omega

theorem ofNat_beq_zero (n : Nat) : (BitVec.ofNat 8 n == 0) = decide (n % 256 = 0) := by
  rw [Bool.eq_iff_iff, beq_iff_eq, decide_eq_true_iff, ← BitVec.toNat_inj, BitVec.toNat_ofNat]
  rfl

/-- `ADC_dec` in the terms of the digits of its operands. -/
theorem adcDec_eq (a m : Byte) (f : Flags) :
    let c := f.c.toNat
    let low := a.toNat % 16 + m.toNat % 16 + c
    let low' := if low < 10 then low else (low + 6) % 16 + 16
    let t := 16 * (a.toNat / 16) + 16 * (m.toNat / 16) + low'
    let signed : Int := 16 * (a.toInt / 16) + 16 * (m.toInt / 16) + low'
    let t' := if t < 160 then t else t + 96
    adcDec a m f = ⟨BitVec.ofNat 8 t', { f with
      n := decide (128 ≤ t % 256)
      v := decide (signed < -128 ∨ 127 < signed)
      z := decide ((a.toNat + m.toNat + c) % 256 = 0)
      c := decide (256 ≤ t') }⟩ := by
  simp only [adcDec, toNat_and_0x0F, toNat_and_0xF0, toInt_and_0xF0, testBit_7_eq, ofNat_beq_zero, ← Nat.not_lt, ite_not,
    Bool.decide_or]

theorem adc_of_decimal {a m : Byte} {f : Flags} (hd : f.d = true) : adc a m f = adcDec a m f := by
  rw [adc, hd, if_pos rfl]

/-- Settles O39: with D set ADC is ADC_dec. -/
theorem adcDecimalCorrectsDigits : Obligations.AdcDecimalCorrectsDigits := by
  intro i s hi hd
  obtain ⟨l, hl, he⟩ := exec_of_aluEffect (alu := adc) (by rw [hi]; rfl) s
  exact ⟨l, hl, by rw [he, adc_of_decimal hd, adcDec_eq]⟩

/-- The accumulator of `SBC_dec` in the terms of the digits of its operands. -/
theorem sbcDec_val (a m : Byte) (f : Flags) :
    let low : Int := (a.toNat % 16 : Nat) - (m.toNat % 16 : Nat) + f.c.toNat - 1
    let low' : Int := if low < 0 then (low - 6) % 16 - 16 else low
    let t : Int := (16 * (a.toNat / 16) : Nat) - (16 * (m.toNat / 16) : Nat) + low'
    (sbcDec a m f).val = BitVec.ofInt 8 (if t < 0 then t - 96 else t) := by
  simp only [sbcDec, toNat_and_0x0F, toNat_and_0xF0]

theorem sbcDec_flags (a m : Byte) (f : Flags) : (sbcDec a m f).flags = (sbcBin a m f).flags := rfl

theorem sbc_of_decimal {a m : Byte} {f : Flags} (hd : f.d = true) : sbc a m f = sbcDec a m f := by
  rw [sbc, hd, if_pos rfl]

/-- Settles O42: with D set SBC is SBC_dec, whose flags are those of SBC_bin. -/
theorem sbcDecimalCorrectsOnlyA : Obligations.SbcDecimalCorrectsOnlyA := by
  intro i s hi hd
  obtain ⟨l, hl, he⟩ := exec_of_aluEffect (alu := sbc) (by rw [hi]; rfl) s
  exact ⟨l, hl, by rw [he, sbc_of_decimal hd, sbcDec_val, sbcDec_flags, sbcBin_eq]; rfl⟩

end Sys2Proof.Machine
end

section
/-! The branches: what one answers, and the flag each of the eight reads (O48). -/

namespace Sys2Proof.Machine

/-- A branch costs 2 cycles, one more when it is taken, and one more still when it is taken across a page (R280, R410). -/
theorem cost_rowBranch (n : Mnemonic) (cross cond : Bool) :
    cost (rowBranch n) cross cond = if cond then (if cross then 4 else 3) else 2 := by
  cases cond <;> cases cross <;> rfl

theorem entry_of_branchCondition {i : Instr} {c : Flags → Bool} (hc : branchCondition i.mnemonic = some c) :
    entry i.opcode = rowBranch i.mnemonic := by
  cases i <;> cases hc <;> (simp only [Instr.opcode]; rfl)

/-- A branch to a displacement, under the condition its mnemonic names. -/
theorem exec_of_branchCondition {i : Instr} {d : Byte} {c : Flags → Bool} (ho : i.operand = .rel d)
    (hc : branchCondition i.mnemonic = some c) (s : State) :
    exec i s = .next (if c s.flags then
        { s with
          pc := (branchTarget d s).addr
          cycles := s.cycles + (if (branchTarget d s).cross then 4 else 3) }
      else { s with cycles := s.cycles + 2 }) := by
  have hrun : exec i s = runBranch i.opcode d (c s.flags) s := by cases i <;> cases ho <;> cases hc <;> rfl
  rw [hrun, runBranch, entry_of_branchCondition hc, cost_rowBranch]
  cases c s.flags <;> rfl

/-- Settles O48: each of the eight has the displacement as its operand and a condition of its own on one flag. -/
theorem branchesFollowTheirFlag : Obligations.BranchesFollowTheirFlag := by
  intro s d i cond h
  obtain ⟨c, ho, hc, rfl⟩ : ∃ c, i.operand = .rel d ∧ branchCondition i.mnemonic = some c ∧ c s.flags = cond := by
    simp only [List.mem_cons, Prod.mk.injEq, List.not_mem_nil, or_false] at h
    rcases h with ⟨rfl, rfl⟩ | ⟨rfl, rfl⟩ | ⟨rfl, rfl⟩ | ⟨rfl, rfl⟩ | ⟨rfl, rfl⟩ | ⟨rfl, rfl⟩ | ⟨rfl, rfl⟩ | ⟨rfl, rfl⟩
      <;> exact ⟨_, rfl, rfl, rfl⟩
  exact ⟨rfl, exec_of_branchCondition ho hc s⟩

end Sys2Proof.Machine
end

section
/-! Jumps, calls and returns: a word pulled after it was pushed, and RTS by the word it pulls (O49). -/

namespace Sys2Proof.Machine

/-- JMP through a pointer: reading the target moves no cycles (R290). -/
theorem exec_jmpInd (p : Word) (s : State) :
    exec (.jmpInd p) s =
      .next { (read16Page p s).st with pc := (read16Page p s).val, cycles := s.cycles + 5 } := by
  have hrun : exec (.jmpInd p) s = .next (charge 5 (jumpTo (read16Page p s).val (read16Page p s).st)) := rfl
  obtain ⟨n, hn⟩ := read16Page_st s p
  rw [hrun, hn]
  rfl

/-- JSR with the address of its last byte on the stack (R291). -/
theorem exec_jsr {s : State} (h : s.windowsLegal = true) (t : Word) :
    exec (.jsr t) s = .next { s with
      ram := (s.ram.write (stackCell s.sp) (hiByte (s.pc - 1))).write (stackCell (s.sp - 1)) (loByte (s.pc - 1))
      sp := s.sp - 2
      pc := t
      cycles := s.cycles + 6 } := by
  have hrun : exec (.jsr t) s = .next (charge 6 (callTo t s)) := rfl
  rw [hrun, callTo, pushWord_spec h]
  rfl

/-- RTS resumes one past the word it pulls (R292). -/
theorem exec_rts_of_pullWord {s t : State} {w : Word} (h : pullWord s = ⟨w, t⟩) :
    exec .rts s = .next { t with pc := w + 1, cycles := t.cycles + 6 } := by
  rw [exec_of_impliedEffect (i := .rts) rfl, returnFromCall, h]
  rfl

theorem stackCell_inj {a b : Byte} : stackCell a = stackCell b ↔ a = b := by
  rw [stackCell, stackCell, Nat.add_left_cancel_iff, BitVec.toNat_inj]

/-- A word pulled from where it was pushed, SP back where it was: the two cells differ, also where SP wraps. -/
theorem pullWord_of_pushed {s u : State} (h : s.ram.wf = true) {w : Word} (hu : u.windowsLegal = true)
    (hram : u.ram = (s.ram.write (stackCell s.sp) (hiByte w)).write (stackCell (s.sp - 1)) (loByte w))
    (hsp : u.sp = s.sp - 2) : pullWord u = ⟨w, { u with sp := s.sp }⟩ := by
  have h2 : s.sp - 2 + 2 = s.sp := BitVec.sub_add_cancel s.sp 2
  have h1 : s.sp - 2 + 1 = s.sp - 1 := by bv_omega
  have hne : stackCell s.sp ≠ stackCell (s.sp - 1) := by rw [Ne, stackCell_inj]; bv_omega
  have hwf := Memory.write_wf h (stackCell s.sp) (hiByte w)
  rw [pullWord_spec hu, hsp, h2, h1, hram, Memory.read_write_same hwf, Memory.read_write_other hwf _ hne,
    Memory.read_write_same h, mkWord_hiByte_loByte]

/-- Settles O49: RTS pulls the word JSR pushed, the address before the next instruction. -/
theorem jumpsCallsAndReturns : Obligations.JumpsCallsAndReturns := by
  intro s t
  refine ⟨rfl, rfl, exec_jmpInd t s, fun hw => ⟨exec_jsr hw t, exec_rts_of_pullWord (pullWord_spec hw), fun h => ?_⟩⟩
  have hret : s.pc - 1 + 1 = s.pc := BitVec.sub_add_cancel s.pc 1
  exact ⟨_, _, exec_jsr hw t, exec_rts_of_pullWord (pullWord_of_pushed h.ram_wf (by exact hw) rfl rfl), hret, rfl, rfl⟩

end Sys2Proof.Machine
end

section
/-! The stack, status and system instructions: the pushes and pulls of A and the status, BRK, RTI, and the instructions
that write one flag (O50, O52, O53, O54). -/

namespace Sys2Proof.Machine

/-- An instruction that pushes a byte of the state. -/
theorem exec_of_pushEffect {i : Instr} {src : State → Byte} {s : State} (h : s.windowsLegal = true)
    (hf : impliedEffect i.mnemonic = some fun t => push (src t) t) :
    exec i s = .next { s with
      ram := s.ram.write (stackCell s.sp) (src s)
      sp := s.sp - 1
      cycles := s.cycles + (entry i.opcode).cycles } := by
  rw [exec_of_impliedEffect hf, push_spec h]
  rfl

/-- PLA's flags are those of the byte pulled (R312). -/
theorem exec_pla {s : State} (h : s.windowsLegal = true) :
    exec .pla s = .next { s with
      a := s.ram.read (stackCell (s.sp + 1))
      sp := s.sp + 1
      flags := nz s.flags (s.ram.read (stackCell (s.sp + 1)))
      cycles := s.cycles + 4 } := by
  rw [exec_of_impliedEffect (i := .pla) rfl, pullA, pull_spec h, charge_writeA]
  rfl

/-- PLP writes all six flags (R313). -/
theorem exec_plp {s : State} (h : s.windowsLegal = true) :
    exec .plp s = .next { s with
      flags := Flags.unpack (s.ram.read (stackCell (s.sp + 1)))
      sp := s.sp + 1
      cycles := s.cycles + 4 } := by
  rw [exec_of_impliedEffect (i := .plp) rfl, pullStatus, pull_spec h]
  rfl

/-- Settles O50: the stack page is RAM under a legal window table, so a push or a pull is one access to RAM. -/
theorem stackInstructionsMoveAAndStatus : Obligations.StackInstructionsMoveAAndStatus := by
  intro s h
  refine ⟨?pha, ?php, exec_pla h, exec_plp h, rfl⟩
  case pha => exact exec_of_pushEffect (i := .pha) (src := State.a) h rfl
  case php => exact exec_of_pushEffect (i := .php) (src := fun t => t.flags.pack true) h rfl

/-- The read of a word moves no cycles, so those of a jump through it count from the state before the read. -/
theorem charge_setPc_read16 (n : Nat) (addr w : Word) (s : State) :
    charge n ((read16 addr s).st.setPc w) = { (read16 addr s).st with pc := w, cycles := s.cycles + n } := by
  obtain ⟨m, hm⟩ := read16_st s addr
  rw [hm]
  rfl

/-- Settles O52: BRK is the entry sequence of an interrupt, with the break bit and the return address one past PC. -/
theorem brkPushesAndVectors : Obligations.BrkPushesAndVectors := by
  refine fun s h => ⟨rfl, ?_⟩
  have hrun : exec .brk s = .next (charge 7 (takeInterrupt (s.pc + 1) true 0xFFFE s)) :=
    exec_of_impliedEffect (i := .brk) rfl s
  obtain ⟨_, rfl, hentry⟩ := takeInterrupt_spec h (s.pc + 1) true 0xFFFE
  rw [hrun, hentry, charge_setPc_read16]

/-- Settles O53: the return sequence, with the cycles of its row. -/
theorem rtiRestoresStatusAndPc : Obligations.RtiRestoresStatusAndPc := by
  refine fun s h => ⟨rfl, ?_⟩
  rw [exec_of_impliedEffect (i := .rti) rfl, returnFromInterrupt_spec h]
  rfl

/-- Settles O54: the effect of each instruction is its one flag, and its row costs 2 cycles. -/
theorem flagInstructionsWriteOneFlag : Obligations.FlagInstructionsWriteOneFlag := fun s =>
  ⟨exec_of_impliedEffect (i := .clc) rfl s, exec_of_impliedEffect (i := .sec) rfl s,
    exec_of_impliedEffect (i := .cli) rfl s, exec_of_impliedEffect (i := .sei) rfl s,
    exec_of_impliedEffect (i := .cld) rfl s, exec_of_impliedEffect (i := .sed) rfl s,
    exec_of_impliedEffect (i := .clv) rfl s, exec_of_impliedEffect (i := .nop) rfl s, rfl⟩

end Sys2Proof.Machine
end

section
/-! The undocumented opcodes: the cell each has in the opcode map, its fetch, and the step that halts (O55). -/

namespace Sys2Proof.Machine

variable {s : State} {op : Byte}

/-- The opcode map's cell of an undocumented opcode, whatever bytes follow it (R105). -/
theorem instrOf_of_undocumented (h : op ∈ undocumented) (b1 b2 : Byte) : instrOf op b1 b2 = .ill op := by
  obtain ⟨hop, hmnem, -, -⟩ := instrOf_spec op b1 b2
  have hill : (instrOf op b1 b2).mnemonic = .ILL := by
    rw [hmnem, entry_of_undocumented op h]
    rfl
  rw [Instr.eq_ill_of_mnemonic hill, hop]

/-- The fetch of a byte of storage draws nothing. -/
theorem fetchByte_of_peek {v : Byte} (h : s.peek s.pc = some v) : fetchByte s = ⟨v, s.setPc (s.pc + 1)⟩ := by
  simp only [fetchByte, busRead_of_peek h]

/-- The fetch of an undocumented opcode takes its byte alone (R340). -/
theorem fetchInstr_of_undocumented (h : op ∈ undocumented) (hpeek : s.peek s.pc = some op) :
    fetchInstr s = ⟨.ill op, s.setPc (s.pc + 1)⟩ := by
  have hmode : (entry op).mode.operandBytes = 0 := by
    rw [entry_of_undocumented op h]
    rfl
  simp only [fetchInstr, fetchByte_of_peek hpeek, hmode, instrOf_of_undocumented h]

theorem step_of_undocumented (h : op ∈ undocumented) (hready : s.Ready) (hcalm : s.Undisturbed)
    (hpeek : s.peek s.pc = some op) : step s = .next (halt (s.setPc (s.pc + 1))) := by
  rw [step_of_ready hready, serviceInterrupts_of_undisturbed hcalm, fetchInstr_of_undocumented h hpeek]
  exact exec_of_ill rfl _

/-- A step that leaves the cycle count as it is returns 0 (R138). -/
theorem stepReturn_of_cycles_eq {t : State} (h : step s = .next t) (hc : t.cycles = s.cycles) :
    stepReturn s = some 0 := by
  simp only [stepReturn, h, hc, Nat.sub_self]

/-- Settles O55: the halt transition is the whole meaning of an undocumented opcode, and its fetch moves PC by one. -/
theorem undocumentedOpcodeHalts : Obligations.UndocumentedOpcodeHalts := by
  refine fun op hop => ⟨exec_of_ill rfl, fun s hready hcalm hpeek => ?_⟩
  have hstep := step_of_undocumented hop hready hcalm hpeek
  exact ⟨hstep, stepReturn_of_cycles_eq hstep rfl⟩

end Sys2Proof.Machine
end

section
/-! Interrupt entry as one equation, and the boundary at which an interrupt is entered (O56, O57). -/

namespace Sys2Proof.Machine

variable {s : State}

/-- Settles O56: entry is the entry sequence with the boundary PC and the break bit clear. -/
theorem interruptEntrySavesPcAndStatus : Obligations.InterruptEntrySavesPcAndStatus := by
  intro kind s hw
  obtain ⟨_, rfl, hentry⟩ := takeInterrupt_spec hw s.pc false kind.vector
  cases kind with
  | nmi => exact hentry
  | irq => exact hentry

/-- Entry alone clears no latch: the pushes go to RAM, and the read of the vector moves the counter of draws alone. -/
theorem enterInterrupt_irqPending (hw : s.windowsLegal = true) (kind : InterruptKind) :
    (enterInterrupt kind s).irqPending = s.irqPending := by
  obtain ⟨saved, hsaved, hentry⟩ := takeInterrupt_spec hw s.pc false kind.vector
  obtain ⟨n, hn⟩ := read16_st saved kind.vector
  rw [enterInterrupt, hentry, hn, hsaved]
  rfl

/-- The boundary at which the interrupt check enters an interrupt: the step goes on from the entered state, where no second
interrupt is due. `u` is the state with the latch cleared. -/
theorem boundary_of_interrupt_entry {u : State} {kind : InterruptKind} (h : s.Ready)
    (hs : serviceInterrupts s = charge 7 (enterInterrupt kind u)) (hw : u.windowsLegal = true) (hu : u.Ready)
    (hn : u.nmiPending = false) :
    step s = step (charge 7 (enterInterrupt kind u)) ∧ (charge 7 (enterInterrupt kind u)).Ready ∧
    (charge 7 (enterInterrupt kind u)).Undisturbed ∧
    (charge 7 (enterInterrupt kind u)).irqPending = u.irqPending ∧
    (charge 7 (enterInterrupt kind u)).flags.i = true := by
  obtain ⟨-, -, -, -, hi⟩ := enterInterrupt_modes hw kind
  exact ⟨step_of_interrupt_entry h hs hw hu hn, (enterInterrupt_ready hw hu kind).charge 7,
    enterInterrupt_undisturbed hw hn kind, enterInterrupt_irqPending hw kind, hi⟩

/-- Settles O57: the NMI latch is asked first, and each entry clears its own latch alone. -/
theorem interruptIsTakenAtBoundary : Obligations.InterruptIsTakenAtBoundary := by
  intro s h hw
  have nmiCleared : (s.setNmi false).Ready := ⟨h.determinate, h.running, h.unstalled⟩
  have irqCleared : (s.setIrq false).Ready := ⟨h.determinate, h.running, h.unstalled⟩
  refine ⟨fun hnmi => ?nmi, fun hn hirq hi => ?irq⟩
  case nmi => exact boundary_of_interrupt_entry h (serviceInterrupts_of_nmi hnmi) hw nmiCleared rfl
  case irq => exact boundary_of_interrupt_entry h (serviceInterrupts_of_irq hn hirq hi) hw irqCleared hn

end Sys2Proof.Machine
end

section
/-! The items of the state that no instruction reads: the cycle count, and the IRQ latch, which only the interrupt check
asks (O13, O58). -/

namespace Sys2Proof.Machine

theorem deviceWrite_of_wsync {s : State} {dev : Device} {idx : Byte} (h : (⟨dev, idx⟩ : ChipReg) = s.wsyncReg)
    (v : Byte) : deviceWrite dev idx v s = s.setStall true := if_pos h

theorem deviceWrite_of_not_wsync {s : State} {dev : Device} {idx : Byte} (h : (⟨dev, idx⟩ : ChipReg) ≠ s.wsyncReg)
    (v : Byte) : deviceWrite dev idx v s =
      (applyEffect (Config.deviceEffect s.draws dev idx v) s).setDraws (s.draws + 1) := if_neg h

/-- The state with `k` cycles more and, where `irq` says so, an IRQ pending. -/
def State.withUnread (s : State) (k : Nat) (irq : Bool) : State :=
  { s with cycles := s.cycles + k, irqPending := s.irqPending || irq }

section
variable (s : State) (k : Nat) (irq : Bool)

/-! ### The state -/

@[simp] theorem State.withUnread_a : (s.withUnread k irq).a = s.a := rfl
@[simp] theorem State.withUnread_x : (s.withUnread k irq).x = s.x := rfl
@[simp] theorem State.withUnread_y : (s.withUnread k irq).y = s.y := rfl
@[simp] theorem State.withUnread_sp : (s.withUnread k irq).sp = s.sp := rfl
@[simp] theorem State.withUnread_pc : (s.withUnread k irq).pc = s.pc := rfl
@[simp] theorem State.withUnread_flags : (s.withUnread k irq).flags = s.flags := rfl
@[simp] theorem State.withUnread_setSp (v : Byte) :
    (s.withUnread k irq).setSp v = (s.setSp v).withUnread k irq := rfl
@[simp] theorem State.withUnread_setPc (w : Word) :
    (s.withUnread k irq).setPc w = (s.setPc w).withUnread k irq := rfl
@[simp] theorem State.withUnread_setFlags (f : Flags) :
    (s.withUnread k irq).setFlags f = (s.setFlags f).withUnread k irq := rfl

/-! ### The operations -/

@[simp] theorem charge_withUnread (n : Nat) : charge n (s.withUnread k irq) = (charge n s).withUnread k irq := by
  simp only [charge, State.withUnread, State.setCycles, Nat.add_right_comm]

theorem writeAlu_withUnread (r : AluResult) :
    writeAlu r (s.withUnread k irq) = (writeAlu r s).withUnread k irq := rfl

theorem deviceWrite_withUnread (dev : Device) (idx v : Byte) :
    deviceWrite dev idx v (s.withUnread k irq) = (deviceWrite dev idx v s).withUnread k irq := by
  by_cases h : (⟨dev, idx⟩ : ChipReg) = s.wsyncReg
  · rw [deviceWrite_of_wsync h, deviceWrite_of_wsync (by exact h)]
    rfl
  · rw [deviceWrite_of_not_wsync h, deviceWrite_of_not_wsync (by exact h), applyEffect_eq, applyEffect_eq]
    simp only [State.withUnread, State.setDraws, Bool.or_right_comm]

@[simp] theorem busRead_withUnread (addr : Word) :
    busRead addr (s.withUnread k irq) = ⟨(busRead addr s).val, (busRead addr s).st.withUnread k irq⟩ := by
  have hr : (s.withUnread k irq).region addr = s.region addr := rfl
  cases h : s.region addr <;> (simp only [busRead, hr, h]; rfl)

@[simp] theorem busWrite_withUnread (addr : Word) (v : Byte) :
    busWrite addr v (s.withUnread k irq) = (busWrite addr v s).withUnread k irq := by
  have hr : (s.withUnread k irq).region addr = s.region addr := rfl
  cases h : s.region addr <;> simp only [busWrite, hr, h, deviceWrite_withUnread]
  rfl

@[simp] theorem read16_withUnread (addr : Word) :
    read16 addr (s.withUnread k irq) = ⟨(read16 addr s).val, (read16 addr s).st.withUnread k irq⟩ := by
  simp [read16]

@[simp] theorem read16Page_withUnread (addr : Word) :
    read16Page addr (s.withUnread k irq) = ⟨(read16Page addr s).val, (read16Page addr s).st.withUnread k irq⟩ := by
  simp [read16Page]

@[simp] theorem push_withUnread (v : Byte) : push v (s.withUnread k irq) = (push v s).withUnread k irq := by
  simp [push]

@[simp] theorem pull_withUnread :
    pull (s.withUnread k irq) = ⟨(pull s).val, (pull s).st.withUnread k irq⟩ := by
  simp [pull]

@[simp] theorem pushWord_withUnread (w : Word) :
    pushWord w (s.withUnread k irq) = (pushWord w s).withUnread k irq := by
  simp [pushWord]

@[simp] theorem pullWord_withUnread :
    pullWord (s.withUnread k irq) = ⟨(pullWord s).val, (pullWord s).st.withUnread k irq⟩ := by
  simp [pullWord]

@[simp] theorem takeInterrupt_withUnread (ret : Word) (brk : Bool) (vector : Word) :
    takeInterrupt ret brk vector (s.withUnread k irq) = (takeInterrupt ret brk vector s).withUnread k irq := by
  simp [takeInterrupt]

@[simp] theorem returnFromInterrupt_withUnread :
    returnFromInterrupt (s.withUnread k irq) = (returnFromInterrupt s).withUnread k irq := by
  simp [returnFromInterrupt]

@[simp] theorem fetchByte_withUnread :
    fetchByte (s.withUnread k irq) = ⟨(fetchByte s).val, (fetchByte s).st.withUnread k irq⟩ := by
  simp [fetchByte]

@[simp] theorem fetchInstr_withUnread :
    fetchInstr (s.withUnread k irq) = ⟨(fetchInstr s).val, (fetchInstr s).st.withUnread k irq⟩ := by
  simp only [fetchInstr, fetchByte_withUnread]
  split <;> rfl

@[simp] theorem effAddr_withUnread (m : MemOperand) :
    effAddr m (s.withUnread k irq) = ⟨(effAddr m s).val, (effAddr m s).st.withUnread k irq⟩ := by
  cases m <;> simp [effAddr]

/-! ### The effects of the mnemonics -/

theorem readEffect_withUnread {n : Mnemonic} {f : Byte → State → State} (hf : readEffect n = some f) (v : Byte) :
    f v (s.withUnread k irq) = (f v s).withUnread k irq := by
  cases n <;> cases hf <;> rfl

theorem storeSource_withUnread {n : Mnemonic} {src : State → Byte} (hf : storeSource n = some src) :
    src (s.withUnread k irq) = src s := by
  cases n <;> cases hf <;> rfl

theorem jumpEffect_withUnread {n : Mnemonic} {f : Word → State → State} (hf : jumpEffect n = some f) (w : Word) :
    f w (s.withUnread k irq) = (f w s).withUnread k irq := by
  cases n <;> cases hf
  case JMP => rfl
  case JSR => simp [callTo]

theorem impliedEffect_withUnread {n : Mnemonic} {f : State → State} (hf : impliedEffect n = some f) :
    f (s.withUnread k irq) = (f s).withUnread k irq := by
  cases n <;> cases hf
  case RTS => simp [returnFromCall]
  case PHA | PHP => simp
  case PLA =>
    simp only [pullA, pull_withUnread]
    rfl
  case PLP => simp [pullStatus]
  case BRK => simp [softwareInterrupt]
  case RTI => simp
  all_goals rfl

/-! ### Instructions and steps -/

theorem exec_withUnread (i : Instr) :
    exec i (s.withUnread k irq) = mapNext (fun t => t.withUnread k irq) (exec i s) := by
  cases execShape i with
  | imm v f hf he => simp only [he, runImm, readEffect_withUnread s k irq hf, charge_withUnread, mapNext]
  | read m f hf he =>
    simp only [he, runRead, effAddr_withUnread, busRead_withUnread, readEffect_withUnread _ k irq hf,
      charge_withUnread, mapNext]
  | store m src hf he =>
    simp only [he, runStore, effAddr_withUnread, storeSource_withUnread _ k irq hf, busWrite_withUnread,
      charge_withUnread, mapNext]
  | modifyAcc f hf he =>
    simp only [he, runModifyAcc, State.withUnread_a, State.withUnread_flags, writeAlu_withUnread, charge_withUnread,
      mapNext]
  | modify m f hf he =>
    simp only [he, runModify, effAddr_withUnread, busRead_withUnread, busWrite_withUnread, State.withUnread_flags,
      State.withUnread_setFlags, charge_withUnread, mapNext]
  | implied f hf he => simp only [he, runImplied, impliedEffect_withUnread s k irq hf, charge_withUnread, mapNext]
  | branch d c hf he =>
    rw [he, he]
    cases h : c s.flags <;> simp [runBranch, branchTarget, h, mapNext]
  | jump m f hf he =>
    simp only [he, runJump, effAddr_withUnread, jumpEffect_withUnread _ k irq hf, charge_withUnread, mapNext]
  | ill hf he =>
    rw [he, he]
    rfl

/-- Where the interrupt check does not tell the two states apart, neither does the step. -/
theorem step_withUnread (h : serviceInterrupts (s.withUnread k irq) = (serviceInterrupts s).withUnread k irq) :
    step (s.withUnread k irq) = mapNext (fun t => t.withUnread k irq) (step s) := by
  have hunset : (s.withUnread k irq).unset = s.unset := rfl
  have hhalted : (s.withUnread k irq).halted = s.halted := rfl
  have hstall : (s.withUnread k irq).stall = s.stall := rfl
  simp only [step, hunset, hhalted, hstall, h, fetchInstr_withUnread, exec_withUnread]
  split_ifs <;> rfl

end

/-- The interrupt check adds its cycles to the count, and does not ask it. -/
theorem serviceInterrupts_withUnread_cycles (s : State) (k : Nat) :
    serviceInterrupts (s.withUnread k false) = (serviceInterrupts s).withUnread k false := by
  have hirq : (s.withUnread k false).irqPending = s.irqPending := Bool.or_false _
  have hnmi : (s.withUnread k false).nmiPending = s.nmiPending := rfl
  have nmiCleared : (s.withUnread k false).setNmi false = (s.setNmi false).withUnread k false := rfl
  have irqCleared : (s.withUnread k false).setIrq false = (s.setIrq false).withUnread k false := rfl
  simp only [serviceInterrupts, enterInterrupt, hirq, hnmi, nmiCleared, irqCleared, State.withUnread_flags,
    State.withUnread_pc, takeInterrupt_withUnread, charge_withUnread]
  split_ifs <;> rfl

/-- Settles O13: cycles are added to the count and never asked. -/
theorem cycleCountAffectsNothingElse : Obligations.CycleCountAffectsNothingElse := by
  intro s k
  have hmore (t : State) : t.setCycles (t.cycles + k) = t.withUnread k false := by
    rw [State.withUnread, Bool.or_false]
    rfl
  simp only [hmore]
  exact step_withUnread s k false (serviceInterrupts_withUnread_cycles s k)

/-- Settles O58: with I set the interrupt check passes over the IRQ latch, and nothing else asks it. -/
theorem maskedIrqIsKeptAndIgnored : Obligations.MaskedIrqIsKeptAndIgnored := by
  intro s hi hn
  have hraised (t : State) : t.setIrq true = t.withUnread 0 true := by
    rw [State.withUnread, Bool.or_true]
    rfl
  have masked (irq : Bool) : (s.setIrq irq).Undisturbed := ⟨hn, .inr hi⟩
  have hcheck : serviceInterrupts ((s.setIrq false).withUnread 0 true) =
      (serviceInterrupts (s.setIrq false)).withUnread 0 true := by
    rw [serviceInterrupts_of_undisturbed (masked false)]
    exact serviceInterrupts_of_undisturbed (masked true)
  have hset : s.setIrq true = (s.setIrq false).withUnread 0 true := rfl
  rw [hset]
  simpa only [hraised] using step_withUnread (s.setIrq false) 0 true hcheck

end Sys2Proof.Machine
end

section
/-! Reset: the state it gives, and a second reset (O60, O14). -/

namespace Sys2Proof.Machine

/-- What `reset()` makes of the state before it reads the vector (R400). -/
def State.cleared (s : State) : State :=
  { s with
    a := 0, x := 0, y := 0, sp := 0xFF, flags := Flags.reset, halted := false, cycles := 0
    nmiPending := false, irqPending := false, stall := false, unset := [] }

theorem hostReset_eq (s : State) :
    hostReset s = (read16 0xFFFC s.cleared).st.setPc (read16 0xFFFC s.cleared).val := rfl

/-- A word read from storage is the two bytes shown, and the read changes nothing. -/
theorem read16_of_peek {s : State} {addr : Word} {lo hi : Byte} (hlo : s.peek addr = some lo)
    (hhi : s.peek (addr + 1) = some hi) : read16 addr s = ⟨mkWord hi lo, s⟩ := by
  simp only [read16, busRead_of_peek hlo, busRead_of_peek hhi]

/-- A reset whose vector shows storage. -/
theorem hostReset_of_peek {s : State} {lo hi : Byte} (hlo : s.peek 0xFFFC = some lo) (hhi : s.peek 0xFFFD = some hi) :
    hostReset s = s.cleared.setPc (mkWord hi lo) := by
  have hread : read16 0xFFFC s.cleared = ⟨mkWord hi lo, s.cleared⟩ := read16_of_peek hlo hhi
  rw [hostReset_eq, hread]

/-- Settles O60: the second reset clears what is clear, and reads the same vector. -/
theorem resetGivesFixedStateAndIsIdempotent : Obligations.ResetGivesFixedStateAndIsIdempotent := by
  refine fun s => ⟨rfl, fun hstorageLo hstorageHi => ?_⟩
  obtain ⟨lo, hlo⟩ := Option.isSome_iff_exists.1 hstorageLo
  obtain ⟨hi, hhi⟩ := Option.isSome_iff_exists.1 hstorageHi
  have again : hostReset (s.cleared.setPc (mkWord hi lo)) = s.cleared.setPc (mkWord hi lo) :=
    hostReset_of_peek (s := s.cleared.setPc (mkWord hi lo)) hlo hhi
  rw [hostReset_of_peek hlo hhi, again]

/-- Settles O14: the memories of the state after reset list nothing, and its window table is the default one. -/
theorem resetMeetsInvariant : Obligations.ResetMeetsInvariant :=
  ⟨⟨rfl, rfl, rfl, rfl, rfl, rfl, by decide⟩, ⟨rfl, rfl, rfl⟩⟩

end Sys2Proof.Machine
end

section
/-! The cost of a row (O5). -/

namespace Sys2Proof.Machine

/-- A row with a branch penalty is the row of a branch. -/
theorem entry_of_branchPenalty : ∀ op : Byte, (entry op).branchPenalty = true →
    entry op = rowBranch (entry op).mnemonic := by
  apply forall_byte
  decide +kernel

/-- No row takes both penalties. -/
theorem branchPenalty_of_pageCrossPenalty : ∀ op : Byte, (entry op).pageCrossPenalty = true →
    (entry op).branchPenalty = false := by
  apply forall_byte
  decide +kernel

/-- Settles O5: which row has which base cycles and penalty is read off the 256 rows of the table, and what a penalty
adds off the cost. -/
theorem costFollowsModeAndPenalties : Obligations.CostFollowsModeAndPenalties := by
  intro op
  dsimp only
  refine ⟨?cycles, ?pageRows, ?branchRows, fun hp => ?page, fun hb => ?branch, fun hp hb cross taken => ?fixed⟩
  case cycles =>
    revert op
    apply forall_byte
    decide +kernel
  case pageRows =>
    revert op
    apply forall_byte
    decide +kernel
  case branchRows =>
    revert op
    apply forall_byte
    decide +kernel
  case page => simp [cost, hp, branchPenalty_of_pageCrossPenalty op hp]
  case branch =>
    rw [entry_of_branchPenalty op hb]
    exact ⟨fun cross => cost_rowBranch _ cross false, cost_rowBranch _ false true, cost_rowBranch _ true true⟩
  case fixed => simp [cost, hp, hb]

end Sys2Proof.Machine
end

section
/-! The decoder and the encoder undo each other (O1, O2, O3). -/

namespace Sys2Proof

/-- What the opcode map gives at an instruction's opcode and operand bytes is the instruction. -/
theorem instrOf_opcode_bytes {i : Instr} (hw : i.wf = true) (b1 b2 : Byte)
    (hb : [b1, b2].take i.operand.bytes.length = i.operand.bytes) : instrOf i.opcode b1 b2 = i := by
  cases i with
  | ill op => exact Machine.instrOf_of_undocumented (List.contains_iff_mem.1 hw) b1 b2
  | _ =>
    cases hb
    simp only [Instr.opcode]
    first | rfl | exact (congrArg _ (mkWord_hiByte_loByte _).symm).symm

theorem Operand.exists_take_eq_bytes (o : Operand) : ∃ b1 b2, [b1, b2].take o.bytes.length = o.bytes := by
  cases o with
  | imp | acc => exact ⟨0, 0, rfl⟩
  | imm v | rel v => exact ⟨v, 0, rfl⟩
  | mem m =>
    cases m with
    | zp z | zpx z | zpy z | indx z | indy z => exact ⟨z, 0, rfl⟩
    | abs a | absx a | absy a | ind a => exact ⟨loByte a, hiByte a, rfl⟩

/-- The table's mode of an instruction has as many operand bytes as the instruction. -/
theorem operandBytes_of_wf {i : Instr} (hw : i.wf = true) :
    (entry i.opcode).mode.operandBytes = i.operand.bytes.length := by
  obtain ⟨b1, b2, hb⟩ := i.operand.exists_take_eq_bytes
  obtain ⟨-, -, hbytes, -⟩ := instrOf_spec i.opcode b1 b2
  have hle := (entry i.opcode).mode.operandBytes_le_two
  rw [instrOf_opcode_bytes hw b1 b2 hb] at hbytes
  rw [hbytes, List.length_take]
  exact (min_eq_left hle).symm

/-- Settles O1: the decoder takes as many bytes after the opcode as the encoder puts there, and their cell of the opcode
map is the instruction. -/
theorem decodeOfEncodeGivesInstruction : Obligations.DecodeOfEncodeGivesInstruction := by
  intro i rest hw
  have hle := (entry i.opcode).mode.operandBytes_le_two
  have hn := operandBytes_of_wf hw
  have hcell := instrOf_opcode_bytes hw
  rcases h : i.operand.bytes with _ | ⟨b1, _ | ⟨b2, _ | ⟨b3, bs⟩⟩⟩ <;> rw [h] at hn hcell
  · simpa [encode, h, decode, hn] using hcell 0 0 rfl
  · simpa [encode, h, decode, hn] using hcell b1 0 rfl
  · simpa [encode, h, decode, hn] using hcell b1 b2 rfl
  · simp only [List.length_cons] at hn
    omega

/-- Settles O2: a decoded instruction is a cell of the opcode map, whose operand bytes are the ones taken. -/
theorem encodeOfDecodedBytesGivesBytes : Obligations.EncodeOfDecodedBytesGivesBytes := by
  intro bytes i rest h
  cases bytes with
  | nil => cases h
  | cons op bytes =>
    have of_cell (b1 b2 : Byte) (hi : i = instrOf op b1 b2)
        (hb : [b1, b2].take (entry op).mode.operandBytes ++ rest = bytes) :
        i.wf = true ∧ encode i ++ rest = op :: bytes := by
      obtain ⟨hop, -, hbytes, hwf⟩ := instrOf_spec op b1 b2
      rw [hi]
      exact ⟨hwf, by rw [encode, hop, hbytes, List.cons_append, hb]⟩
    simp only [decode] at h
    split at h <;> cases h
    case h_1 hn => exact of_cell 0 0 rfl (by rw [hn]; rfl)
    case h_2 hn => exact of_cell _ 0 rfl (by rw [hn]; rfl)
    case h_3 hn => exact of_cell _ _ rfl (by rw [hn]; rfl)

/-- Settles O3: each word runs through the decoder. -/
theorem sampleWordsDecode : Obligations.SampleWordsDecode :=
  ⟨rfl, rfl, rfl, rfl, rfl, rfl, rfl, rfl, rfl, rfl, rfl⟩

end Sys2Proof
end

section
/-! A fetch takes the bytes of one instruction (O6). -/

namespace Sys2Proof.Machine

variable {s : State}

/-- Where the bytes from PC on are those of an instruction, the fetch answers it, with PC past them. -/
theorem fetchInstr_of_shows {bytes : List Byte} {i : Instr} (h : s.Shows s.pc bytes)
    (hd : decode bytes = .ok (i, [])) :
    fetchInstr s = ⟨i, s.setPc (s.pc + BitVec.ofNat 16 bytes.length)⟩ := by
  cases bytes with
  | nil => cases hd
  | cons op bytes =>
    have hop : fetchByte s = ⟨op, s.setPc (s.pc + 1)⟩ := fetchByte_of_peek (by simpa using h 0 (Nat.succ_pos _))
    simp only [decode] at hd
    split at hd <;> cases hd
    case h_1 hn => simp only [fetchInstr, hop, hn]; rfl
    case h_2 b1 hn =>
      have h1 : fetchByte (s.setPc (s.pc + 1)) = ⟨b1, s.setPc (s.pc + 1 + 1)⟩ := fetchByte_of_peek (h 1 (by simp))
      simp only [fetchInstr, hop, h1, hn]
      rw [BitVec.add_assoc]
      rfl
    case h_3 b1 b2 hn =>
      have h1 : fetchByte (s.setPc (s.pc + 1)) = ⟨b1, s.setPc (s.pc + 1 + 1)⟩ := fetchByte_of_peek (h 1 (by simp))
      have h2 : fetchByte (s.setPc (s.pc + 1 + 1)) = ⟨b2, s.setPc (s.pc + 1 + 1 + 1)⟩ :=
        fetchByte_of_peek (by rw [State.setPc_pc, BitVec.add_assoc]; exact h 2 (by simp))
      simp only [fetchInstr, hop, h1, h2, hn]
      rw [BitVec.add_assoc, BitVec.add_assoc]
      rfl

/-- Settles O6: no interrupt is due, so the step is the fetch and the instruction fetched. -/
theorem stepRunsDecodedInstruction : Obligations.StepRunsDecodedInstruction := by
  intro s bytes i hready hcalm hshows hdec
  rw [step_of_ready hready, serviceInterrupts_of_undisturbed hcalm, fetchInstr_of_shows hshows hdec]

end Sys2Proof.Machine
end

section
/-! The host's operations, and what they write (O12). -/

namespace Sys2Proof.Machine

theorem getD_eq_dite {α : Type} (o : Option α) (d : α) : o.getD d = if h : o.isSome then o.get h else d := by
  cases o <;> rfl

theorem setState_ram_read_of_kept {s : State} (h : s.Inv) {p : Patch} {addr : Word}
    (hk : (∀ e ∈ p.ram, e.1 ≠ addr) ∨ (s.windowOf (hiByte addr)).isSome = true) :
    (setState p s).ram.read addr.toNat = s.ram.read addr.toNat := by
  refine State.namedCells_read_other s p.ram h.ram_wf fun e he hw heq => ?_
  have hea : e.1 = addr := BitVec.eq_of_toNat_eq heq
  rcases hk with hk | hk
  · exact hk e he hea
  · rw [← hea, hw] at hk
    cases hk

theorem setState_ram_read_of_named {s : State} (h : s.Inv) {p : Patch} {addr : Word} {v : Byte}
    {front back : List (Word × Byte)} (hp : p.ram = front ++ (addr, v) :: back) (hlast : ∀ e ∈ back, e.1 ≠ addr)
    (hw : s.windowOf (hiByte addr) = none) : (setState p s).ram.read addr.toNat = v := by
  have hfront := s.namedCells_wf front h.ram_wf
  have hram : (setState p s).ram = s.namedCells back ((s.namedCells front s.ram).write addr.toNat v) := by
    simp [setState, hp, State.namedCells_append, State.namedCells, hw]
  rw [hram, State.namedCells_read_other s back (Memory.write_wf hfront _ v) fun e he _ heq =>
    hlast e he (BitVec.eq_of_toNat_eq heq), Memory.read_write_same hfront]

/-- Settles O12: an item named gets the named value, but for the items that `set_state` may only set or give a first
value. -/
theorem hostOperationsWriteWhatTheyName : Obligations.HostOperationsWriteWhatTheyName := by
  refine fun s => ⟨rfl, rfl, rfl, fun p => ?_, fun h p addr =>
    ⟨setState_ram_read_of_kept h, fun v front back => setState_ram_read_of_named h⟩⟩
  simp only [← getD_eq_dite, ← State.namedMayOnlySet_eq, ← State.namedFirstValue_eq]
  rfl

end Sys2Proof.Machine
end

section
/-! The invariant: every operation keeps it, none writes a cell under a window, and a run of any length is safe (O15,
O16, O18). -/

namespace Sys2Proof.Machine

variable {s t : State}

/-! ### What the invariant asks -/

/-- With the parameters as they were, the invariant asks only that RAM is canonical and of its size. -/
theorem State.Inv.of_ram (h : s.Inv) (hparam : t.parameters = s.parameters) (hwf : t.ram.wf = true)
    (hwithin : t.ram.within 65536 = true) : t.Inv := by
  simp only [State.parameters, Prod.mk.injEq] at hparam
  obtain ⟨hos, hbasic, hwindows, -⟩ := hparam
  have hlegal : t.windowsLegal = s.windowsLegal := by rw [State.windowsLegal, State.windowsLegal, hwindows]
  exact ⟨hwf, hwithin, hos ▸ h.osRom_wf, hos ▸ h.osRom_within, hbasic ▸ h.basicRom_wf, hbasic ▸ h.basicRom_within,
    hlegal.trans h.windows⟩

theorem State.Inv.of_ram_eq (h : s.Inv) (hparam : t.parameters = s.parameters) (hram : t.ram = s.ram) : t.Inv :=
  h.of_ram hparam (hram ▸ h.ram_wf) (hram ▸ h.ram_within)

theorem State.windowOf_of_parameters_eq (h : t.parameters = s.parameters) (page : Byte) :
    t.windowOf page = s.windowOf page := by
  simp only [State.parameters, Prod.mk.injEq] at h
  obtain ⟨-, -, hwindows, -⟩ := h
  rw [State.windowOf, State.windowOf, hwindows]

theorem State.ram_of_external_eq (h : t.external = s.external) : t.ram = s.ram :=
  show t.external.ram = s.external.ram by rw [h]

theorem hostReset_ram (s : State) : (hostReset s).ram = s.ram := by
  obtain ⟨n, hn⟩ := read16_st s.cleared 0xFFFC
  rw [hostReset_eq, hn]
  rfl

/-! ### The invariant is kept -/

theorem busWrite_inv (h : s.Inv) (addr : Word) (v : Byte) : (busWrite addr v s).Inv :=
  h.of_ram (busWrite_parameters addr v s) (busWrite_ram_wf addr v h.ram_wf) (busWrite_ram_within addr v h.ram_within)

theorem Evolves.inv (h : Evolves s t) (hs : s.Inv) : t.Inv := by
  induction h with
  | internal h => exact hs.of_ram_eq (Evolves.internal h).parameters_eq (State.ram_of_external_eq h)
  | write addr v s => exact busWrite_inv hs addr v
  | trans _ _ ih₁ ih₂ => exact ih₂ (ih₁ hs)

theorem HostOp.run_inv {op : HostOp} (h : op.run s = .next t) (hs : s.Inv) : t.Inv := by
  have hparam := HostOp.run_parameters h
  cases op with
  | step => exact (step_evolves h).inv hs
  | reset =>
    cases h
    exact hs.of_ram_eq hparam (hostReset_ram s)
  | setState p =>
    cases h
    exact hs.of_ram hparam (s.namedCells_wf p.ram hs.ram_wf) (s.namedCells_within p.ram hs.ram_within)
  | read addr =>
    cases h
    exact (busRead_evolves s addr).inv hs
  | write addr v =>
    cases h
    exact busWrite_inv hs addr v
  | tick | raiseNmi | raiseIrq | setBank =>
    cases h
    exact hs.of_ram_eq hparam rfl

/-- Settles O15: a step evolves by bus writes and changes of the processor's own items, and every operation that writes
RAM writes it in canonical form. -/
theorem stepAndHostOperationsKeepInvariant : Obligations.StepAndHostOperationsKeepInvariant :=
  ⟨fun _ _ hs h => (step_evolves h).inv hs, fun _ _ _ hs h => HostOp.run_inv h hs⟩

/-! ### The cells under a window -/

/-- A bus write to an address under a window goes to the device. -/
theorem busWrite_ram_read_under_window (h : s.Inv) {cell : Word} (hw : (s.windowOf (hiByte cell)).isSome = true)
    (addr : Word) (v : Byte) : (busWrite addr v s).ram.read cell.toNat = s.ram.read cell.toNat := by
  by_cases hcell : cell.toNat = addr.toNat
  · obtain ⟨w, hwin⟩ := Option.isSome_iff_exists.1 hw
    obtain rfl : cell = addr := BitVec.eq_of_toNat_eq hcell
    rw [busWrite_of_window (State.region_of_window hwin), deviceWrite_ram]
  · exact busWrite_ram_read addr v h.ram_wf hcell

theorem Evolves.ram_read_under_window (h : Evolves s t) (hs : s.Inv) {cell : Word}
    (hw : (s.windowOf (hiByte cell)).isSome = true) : t.ram.read cell.toNat = s.ram.read cell.toNat := by
  induction h with
  | internal h => rw [State.ram_of_external_eq h]
  | write addr v s => exact busWrite_ram_read_under_window hs hw addr v
  | trans h₁ _ ih₁ ih₂ =>
    have hw₁ := State.windowOf_of_parameters_eq h₁.parameters_eq (hiByte cell)
    exact (ih₂ (h₁.inv hs) (hw₁ ▸ hw)).trans (ih₁ hs hw)

/-- Settles O18: a bus write to such an address goes to the device, and `set_state` passes over such a cell. -/
theorem ramUnderWindowIsNeverWritten : Obligations.RamUnderWindowIsNeverWritten := by
  intro op s t cell hs h hw
  cases op with
  | step => exact (step_evolves h).ram_read_under_window hs hw
  | reset =>
    cases h
    rw [hostReset_ram]
  | setState p =>
    cases h
    exact setState_ram_read_of_kept hs (.inr hw)
  | read addr =>
    cases h
    exact (busRead_evolves s addr).ram_read_under_window hs hw
  | write addr v =>
    cases h
    exact busWrite_ram_read_under_window hs hw addr v
  | tick | raiseNmi | raiseIrq | setBank =>
    cases h
    rfl

/-! ### Runs -/

theorem Evolves.unset_eq (h : Evolves s t) : t.unset = s.unset := by
  induction h with
  | @internal s t h => exact show t.external.unset = s.external.unset by rw [h]
  | write addr v s => exact busWrite_unset s addr v
  | trans _ _ ih₁ ih₂ => exact ih₂.trans ih₁

theorem run_succ_of_step (h : step s = .next t) (n : Nat) :
    Host.Core.run Sys2Proof.core (n + 1) s = Host.Core.run Sys2Proof.core n t := by
  have hstep : Sys2Proof.core.step s = .next t := h
  simp only [Host.Core.run, hstep]

/-- Settles O16, by induction on the number of steps: a determinate state has a next one, which is determinate again. -/
theorem everyRunIsSafe : Obligations.EveryRunIsSafe := by
  intro s n hs hu
  induction n generalizing s with
  | zero => exact ⟨s, rfl, hs⟩
  | succ n ih =>
    obtain ⟨t, ht⟩ := exists_step_eq_next hu
    have ev := step_evolves ht
    obtain ⟨u, hrun, hinv⟩ := ih t (ev.inv hs) (ev.unset_eq.trans hu)
    exact ⟨u, (run_succ_of_step ht n).trans hrun, hinv⟩

end Sys2Proof.Machine
end

section
/-! The halted mode: what enters it and what ends it (O11). -/

namespace Sys2Proof.Machine

section
variable (s : State)

/-! ### Only the halt transition writes `halted` in a step -/

@[simp] theorem busRead_halted (addr : Word) : (busRead addr s).st.halted = s.halted := by
  obtain ⟨n, hn⟩ := busRead_st s addr
  rw [hn, State.setDraws_halted]

@[simp] theorem read16_halted (addr : Word) : (read16 addr s).st.halted = s.halted := by simp [read16]

@[simp] theorem effAddr_halted (m : MemOperand) : (effAddr m s).st.halted = s.halted := by
  obtain ⟨n, hn⟩ := effAddr_st s m
  rw [hn, State.setDraws_halted]

@[simp] theorem fetchInstr_halted : (fetchInstr s).st.halted = s.halted := by
  obtain ⟨k, n, hn⟩ := fetchInstr_st s
  rw [hn, State.setDraws_halted, State.setPc_halted]

@[simp] theorem charge_halted (n : Nat) : (charge n s).halted = s.halted := rfl

@[simp] theorem push_halted (v : Byte) : (push v s).halted = s.halted := by simp [push]

@[simp] theorem pull_halted : (pull s).st.halted = s.halted := by simp [pull]

@[simp] theorem pushWord_halted (w : Word) : (pushWord w s).halted = s.halted := by simp [pushWord]

@[simp] theorem pullWord_halted : (pullWord s).st.halted = s.halted := by simp [pullWord]

@[simp] theorem takeInterrupt_halted (ret : Word) (brk : Bool) (vector : Word) :
    (takeInterrupt ret brk vector s).halted = s.halted := by simp [takeInterrupt]

@[simp] theorem returnFromInterrupt_halted : (returnFromInterrupt s).halted = s.halted := by
  simp [returnFromInterrupt]

@[simp] theorem serviceInterrupts_halted : (serviceInterrupts s).halted = s.halted := by
  unfold serviceInterrupts
  split_ifs <;> simp [enterInterrupt]

theorem readEffect_halted {n : Mnemonic} {f : Byte → State → State} (hf : readEffect n = some f) (v : Byte) :
    (f v s).halted = s.halted := by
  cases n <;> cases hf <;> rfl

theorem jumpEffect_halted {n : Mnemonic} {f : Word → State → State} (hf : jumpEffect n = some f) (w : Word) :
    (f w s).halted = s.halted := by
  cases n <;> cases hf
  case JMP => rfl
  case JSR => simp [callTo]

theorem impliedEffect_halted {n : Mnemonic} {f : State → State} (hf : impliedEffect n = some f) :
    (f s).halted = s.halted := by
  cases n <;> cases hf
  case RTS => simp [returnFromCall]
  case PHA | PHP | RTI => simp
  case PLA => simp [pullA, writeA]
  case PLP => simp [pullStatus]
  case BRK => simp [softwareInterrupt]
  all_goals rfl

variable {s} {t : State} {i : Instr}

/-- An instruction with an effect of its own answers a state as halted as its own. -/
theorem exec_halted (hi : i.mnemonic ≠ .ILL) (h : exec i s = .next t) : t.halted = s.halted := by
  cases execShape i with
  | imm v f hf he =>
    cases (he s).symm.trans h
    exact readEffect_halted s hf v
  | read m f hf he =>
    cases (he s).symm.trans h
    simp [readEffect_halted _ hf]
  | store m src hf he =>
    cases (he s).symm.trans h
    simp
  | modifyAcc f hf he =>
    cases (he s).symm.trans h
    rfl
  | modify m f hf he =>
    cases (he s).symm.trans h
    simp
  | implied f hf he =>
    cases (he s).symm.trans h
    exact impliedEffect_halted s hf
  | branch d c hf he =>
    cases (he s).symm.trans h
    cases c s.flags <;> rfl
  | jump m f hf he =>
    cases (he s).symm.trans h
    simp [jumpEffect_halted _ hf]
  | ill hf he => exact absurd hf hi

theorem exec_halted_iff (hs : s.halted = false) (h : exec i s = .next t) : t.halted = true ↔ ∃ op, i = .ill op := by
  by_cases hi : i.mnemonic = .ILL
  · cases (exec_of_ill hi s).symm.trans h
    exact ⟨fun _ => ⟨_, Instr.eq_ill_of_mnemonic hi⟩, fun _ => rfl⟩
  · rw [exec_halted hi h, hs]
    refine ⟨fun hfalse => absurd hfalse Bool.false_ne_true, ?_⟩
    rintro ⟨op, rfl⟩
    exact absurd rfl hi

end

/-! ### The operations -/

/-- The two operations that may end the halted mode (R145, R402). -/
theorem hostOp_of_halted_ends {op : HostOp} {s t : State} (hs : s.halted = true) (h : op.run s = .next t)
    (ht : t.halted = false) :
    op = .reset ∨ (.halted ∈ s.unset ∧ ∃ p : Patch, op = .setState p ∧ p.halted = some false) := by
  have stays {P : Prop} (hkept : t.halted = s.halted) : P := by
    rw [ht, hs] at hkept
    cases hkept
  cases op with
  | reset => exact .inl rfl
  | step =>
    by_cases hu : s.unset = []
    · cases (step_of_halted hu hs).symm.trans h
      exact stays rfl
    · cases (step_of_indeterminate hu).symm.trans h
  | setState p =>
    cases h
    by_cases hu : .halted ∈ s.unset
    · have hnamed : p.halted.getD s.halted = false := by
        simpa [setState, State.namedMayOnlySet_eq, hu] using ht
      cases hp : p.halted with
      | none =>
        rw [hp] at hnamed
        exact stays (ht.trans hnamed.symm)
      | some b =>
        rw [hp] at hnamed
        exact .inr ⟨hu, p, rfl, hp.trans (congrArg some hnamed)⟩
    · exact stays ((setState_halted_of_set p hs hu).trans hs.symm)
  | read addr =>
    cases h
    exact stays (busRead_halted s addr)
  | write addr v =>
    cases h
    exact stays (busWrite_halted s addr v)
  | tick | raiseNmi | raiseIrq | setBank =>
    cases h
    exact stays rfl

/-- Settles O11: in a step only the halt transition writes `halted`, and of the other operations only reset and
`set_state`. -/
theorem haltedModeIsEnteredByUndocumentedLeftByReset : Obligations.HaltedModeIsEnteredByUndocumentedLeftByReset := by
  refine ⟨fun s t hready h => ?_, fun op s t => hostOp_of_halted_ends⟩
  have hfetched : (fetchInstr (serviceInterrupts s)).st.halted = false := by simp [hready.running]
  exact exec_halted_iff hfetched ((step_of_ready hready).symm.trans h)

end Sys2Proof.Machine
end

section
/-! RAM, windows and the WSYNC register on the bus (O21, O23, O24). -/

namespace Sys2Proof.Machine

variable {s : State}

/-- Settles O21: the address still resolves to its RAM cell after the write. -/
theorem ramReadsBackLastWrite : Obligations.RamReadsBackLastWrite := by
  intro s addr v hs hr
  refine ⟨?readBack, ?ramOnly, fun b hb => busWrite_ram_read addr v hs.ram_wf hb⟩
  case readBack =>
    have hr' : (busWrite addr v s).region addr = .ram addr := by rw [busWrite_of_ram hr, State.region_setRam, hr]
    rw [busRead_of_ram hr', busWrite_of_ram hr, State.setRam_ram, Memory.read_write_same hs.ram_wf]
  case ramOnly =>
    rw [busWrite_of_ram hr]
    rfl

/-! ### Windows -/

/-- Masking with a power of two less one is the remainder by it (R69). -/
theorem windowIndex_eq_mod {w : ChipWindow} (h : windowLegal w = true) (off : Byte) :
    windowIndex w off = BitVec.ofNat 8 (off.toNat % w.period) := by
  obtain ⟨k, hk, hp⟩ : ∃ k ≤ 8, w.period = 2 ^ k := by
    simp only [windowLegal, Bool.and_eq_true, List.contains_iff_mem] at h
    have hpow : ∀ p ∈ [1, 2, 4, 8, 16, 32, 64, 128, 256], ∃ k ≤ 8, p = 2 ^ k := by decide
    exact hpow _ h.2
  have hle : 2 ^ k ≤ 2 ^ 8 := Nat.pow_le_pow_right (by decide) hk
  apply BitVec.eq_of_toNat_eq
  have hmask : (BitVec.ofNat 8 (2 ^ k - 1)).toNat = 2 ^ k - 1 := Nat.mod_eq_of_lt (by omega)
  have hmod : off.toNat % 2 ^ k < 2 ^ 8 := lt_of_le_of_lt (Nat.mod_le _ _) off.isLt
  rw [windowIndex, hp, BitVec.toNat_and, hmask, Nat.and_two_pow_sub_one_eq_mod, BitVec.toNat_ofNat,
    Nat.mod_eq_of_lt hmod]

/-- Settles O23: the windows come first, and set_bank leaves them. -/
theorem windowMirrorsModuloPeriod : Obligations.WindowMirrorsModuloPeriod := by
  intro s addr w hlegal hw os basic
  have hwin : windowLegal w = true := by
    simp only [State.windowsLegal, Bool.and_eq_true, List.all_eq_true] at hlegal
    exact hlegal.1 w (List.mem_of_find?_eq_some hw)
  rw [State.region_of_window (s := setBank os basic s) hw, windowIndex_eq_mod hwin]

/-! ### WSYNC -/

theorem busWrite_of_wsync {addr : Word} (h : s.region addr = .window s.wsyncReg.device s.wsyncReg.index) (v : Byte) :
    busWrite addr v s = s.setStall true := by
  rw [busWrite_of_window h, deviceWrite_of_wsync rfl]

/-- The mirrors of register 0x0A in the window of page 0xD4 (R70, R73). -/
theorem region_wsync_mirror (hw : s.chipWindows = Config.chipWindows) (hreg : s.wsyncReg = Config.wsyncReg) {k : Nat}
    (hk : k < 16) :
    s.region (BitVec.ofNat 16 (0xD40A + 16 * k)) = .window s.wsyncReg.device s.wsyncReg.index := by
  have hmirrors : ∀ k < 16, Config.chipWindows.find? (fun w => w.page == hiByte (BitVec.ofNat 16 (0xD40A + 16 * k))) =
      some ⟨0xD4, .antic, 16⟩ ∧ windowIndex ⟨0xD4, .antic, 16⟩ (loByte (BitVec.ofNat 16 (0xD40A + 16 * k))) = 0x0A := by
    decide
  obtain ⟨hwin, hidx⟩ := hmirrors k hk
  have hwin : s.windowOf (hiByte (BitVec.ofNat 16 (0xD40A + 16 * k))) = some ⟨0xD4, .antic, 16⟩ := by
    rw [State.windowOf, hw, hwin]
  rw [State.region_of_window hwin, hidx, hreg]
  rfl

/-- Settles O24: the write does the stall, and a read moves the counter of draws alone. -/
theorem wsyncWriteSetsStall : Obligations.WsyncWriteSetsStall := by
  refine ⟨fun s addr v h => ⟨busWrite_of_wsync h v, ?_⟩, fun s k v hk hw hreg =>
    busWrite_of_wsync (region_wsync_mirror hw hreg hk) v⟩
  obtain ⟨n, hn⟩ := busRead_st s addr
  rw [hn, State.setDraws_stall]

end Sys2Proof.Machine
end

section
/-! What instructions load and what they do with it, and the stores (O33, O34, O35, O43, O45). -/

namespace Sys2Proof.Machine

variable {i : Instr}

/-- Settles O33: a load moves the counter of draws alone. -/
theorem loadingChangesNothing : Obligations.LoadingChangesNothing := fun _ _ _ => loaded_st

/-- An instruction that reads a byte runs its effect on the state it starts from, but for the counter of draws. -/
theorem exists_loaded_of_readEffect {f : Byte → State → State} (hf : readEffect i.mnemonic = some f) (s : State) :
    ∃ l n, loaded i s = some l ∧ l.st = s.setDraws n ∧
      exec i s = .next (charge l.cycles (f l.val (s.setDraws n))) := by
  obtain ⟨l, hl, he⟩ := exec_of_readEffect hf s
  obtain ⟨n, hn⟩ := loaded_st hl
  exact ⟨l, n, hl, hn, hn ▸ he⟩

/-- Settles O34: the effect of each of the three is to write its register with its flags. -/
theorem loadsWriteRegisterAndNZ : Obligations.LoadsWriteRegisterAndNZ := by
  refine fun i s => ⟨fun hi => ?lda, fun hi => ?ldx, fun hi => ?ldy⟩
  case lda =>
    obtain ⟨l, n, hl, hn, he⟩ := exists_loaded_of_readEffect (f := writeA) (by rw [hi]; rfl) s
    exact ⟨l, hl, by rw [he, hn, charge_writeA]; rfl⟩
  case ldx =>
    obtain ⟨l, n, hl, hn, he⟩ := exists_loaded_of_readEffect (f := writeX) (by rw [hi]; rfl) s
    exact ⟨l, hl, by rw [he, hn, charge_writeX]; rfl⟩
  case ldy =>
    obtain ⟨l, n, hl, hn, he⟩ := exists_loaded_of_readEffect (f := writeY) (by rw [hi]; rfl) s
    exact ⟨l, hl, by rw [he, hn, charge_writeY]; rfl⟩

/-- An instruction that writes the result of an operation on A and the byte loaded to A, with its flags. -/
theorem exec_of_logicEffect {f : Byte → Byte → Byte}
    (hf : readEffect i.mnemonic = some fun m t => writeA (f t.a m) t) (s : State) :
    ∃ l, loaded i s = some l ∧ exec i s = .next { l.st with
      a := f s.a l.val, flags := nz s.flags (f s.a l.val), cycles := s.cycles + l.cycles } := by
  obtain ⟨l, n, hl, hn, he⟩ := exists_loaded_of_readEffect hf s
  exact ⟨l, hl, by rw [he, hn, charge_writeA]; rfl⟩

/-- Settles O43: the three differ in their operation alone. -/
theorem logicWritesAAndNZ : Obligations.LogicWritesAAndNZ := by
  rintro i s _ (⟨hi, rfl⟩ | ⟨hi, rfl⟩ | ⟨hi, rfl⟩)
  all_goals exact exec_of_logicEffect (by rw [hi]; rfl) s

theorem getLsbD_7_eq (b : Byte) : b.getLsbD 7 = decide (128 ≤ b.toNat) := by
  revert b
  apply forall_byte
  decide +kernel

/-- BIT's flags, with bits 7 and 6 of the operand by its value (R223). -/
theorem bitFlags_eq (a m : Byte) (f : Flags) : bitFlags a m f = { f with
    z := decide (a &&& m = 0), n := decide (128 ≤ m.toNat), v := decide (64 ≤ m.toNat % 128) } := by
  have hv : m.getLsbD 6 = decide (64 ≤ m.toNat % 128) := by
    revert m
    apply forall_byte
    decide +kernel
  rw [bitFlags, getLsbD_7_eq, hv]
  rfl

/-- Settles O45: BIT writes the flags alone. -/
theorem bitTestTakesNVFromOperand : Obligations.BitTestTakesNVFromOperand := by
  intro i s hi
  obtain ⟨l, n, hl, hn, he⟩ := exists_loaded_of_readEffect (f := bitTest) (by rw [hi]; rfl) s
  exact ⟨l, hl, by rw [he, hn, bitTest, bitFlags_eq]; rfl⟩

/-- A store is one bus write, at the base cycles of its row. -/
theorem exec_of_storeSource {src : State → Byte} (hsrc : ∀ (s : State) n, src (s.setDraws n) = src s)
    (hf : storeSource i.mnemonic = some src) (s : State) : ∃ m : MemOperand, i.operand = .mem m ∧
      exec i s = .next { busWrite (effAddr m s).val.addr (src s) (effAddr m s).st with
        cycles := s.cycles + (entry i.opcode).cycles } := by
  obtain ⟨⟨m, hm⟩, hcost⟩ := operand_of_storeSource hf
  obtain ⟨n, hn⟩ := effAddr_st s m
  refine ⟨m, hm, ?_⟩
  rw [exec_eq_runStore hf hm, runStore, hcost, hn, hsrc, charge, busWrite_cycles]
  rfl

/-- Settles O35: the three differ in their register alone. -/
theorem storesWriteRegisterToMemory : Obligations.StoresWriteRegisterToMemory := by
  rintro i s _ (⟨hi, rfl⟩ | ⟨hi, rfl⟩ | ⟨hi, rfl⟩)
  · exact exec_of_storeSource (src := State.a) (fun _ _ => rfl) (by rw [hi]; rfl) s
  · exact exec_of_storeSource (src := State.x) (fun _ _ => rfl) (by rw [hi]; rfl) s
  · exact exec_of_storeSource (src := State.y) (fun _ _ => rfl) (by rw [hi]; rfl) s

end Sys2Proof.Machine
end

section
/-! Decimal digits: the correction of each digit carries or borrows at ten, so the corrected bytes are decimal (O40). -/

namespace Sys2Proof.Machine

/-- Two digits below ten and the byte that writes them. -/
def WritesDigits (b : Byte) (tens ones : Nat) : Prop := tens < 10 ∧ ones < 10 ∧ b.toNat = 16 * tens + ones

theorem exists_writesDigits {b : Byte} (h : isBcd b = true) : ∃ tens ones, WritesDigits b tens ones := by
  simp only [isBcd, Bool.and_eq_true, decide_eq_true_eq] at h
  exact ⟨b.toNat / 16, b.toNat % 16, h.2, h.1, by omega⟩

theorem WritesDigits.isBcd {b : Byte} {tens ones : Nat} (h : WritesDigits b tens ones) : isBcd b = true := by
  obtain ⟨ht, ho, hb⟩ := h
  simp only [Machine.isBcd, Bool.and_eq_true, decide_eq_true_eq]
  omega

theorem WritesDigits.bcdValue_eq {b : Byte} {tens ones : Nat} (h : WritesDigits b tens ones) :
    bcdValue b = 10 * tens + ones := by
  obtain ⟨ht, ho, hb⟩ := h
  rw [bcdValue]
  omega

theorem WritesDigits.div {b : Byte} {tens ones : Nat} (h : WritesDigits b tens ones) : b.toNat / 16 = tens := by
  obtain ⟨ht, ho, hb⟩ := h
  omega

theorem WritesDigits.mod {b : Byte} {tens ones : Nat} (h : WritesDigits b tens ones) : b.toNat % 16 = ones := by
  obtain ⟨ht, ho, hb⟩ := h
  omega

/-- The low digit of a decimal sum: ten of it are carried as sixteen. -/
theorem corrected_low_sum {x : Nat} (h : x < 20) :
    (if x < 10 then x else (x + 6) % 16 + 16) = 16 * (x / 10) + x % 10 := by
  split_ifs <;> omega

/-- The high digit of a decimal sum: ten of it are carried out of the byte. -/
theorem corrected_high_sum {x l : Nat} (h : x < 20) (hl : l < 10) :
    let t := 16 * x + l
    let t' := if t < 160 then t else t + 96
    t' % 256 = 16 * (x % 10) + l ∧ (256 ≤ t' ↔ 10 ≤ x) := by
  intro t t'
  simp only [t', t]
  split_ifs <;> omega

/-- The low digit of a decimal difference: ten are borrowed as sixteen. -/
theorem corrected_low_difference {x : Int} (h : -10 ≤ x) (h' : x < 10) :
    (if x < 0 then (x - 6) % 16 - 16 else x) = 16 * (x / 10) + x % 10 := by
  split_ifs <;> omega

/-- The high digit of a decimal difference: ten are borrowed from outside the byte. -/
theorem corrected_high_difference {x l : Int} (h : -10 ≤ x) (h' : x < 10) (hl : 0 ≤ l) (hl' : l < 10) :
    let t := 16 * x + l
    (if t < 0 then t - 96 else t) % 256 = 16 * (x % 10) + l := by
  intro t
  simp only [t]
  split_ifs <;> omega

theorem adcDec_of_digits {a m : Byte} {f : Flags} {ah al mh ml : Nat} (ha : WritesDigits a ah al)
    (hm : WritesDigits m mh ml) :
    let low := al + ml + f.c.toNat
    let high := ah + mh + low / 10
    WritesDigits (adcDec a m f).val (high % 10) (low % 10) ∧ ((adcDec a m f).flags.c = true ↔ 10 ≤ high) := by
  intro low high
  have hc := f.c.toNat_le
  have ⟨hah, hal, _⟩ := ha
  have ⟨hmh, hml, _⟩ := hm
  obtain ⟨hval, hcarry⟩ := corrected_high_sum (x := high) (l := low % 10) (by omega) (by omega)
  have ht : 16 * ah + 16 * mh + (16 * (low / 10) + low % 10) = 16 * high + low % 10 := by omega
  rw [adcDec_eq]
  simp only [ha.div, ha.mod, hm.div, hm.mod, corrected_low_sum (x := al + ml + f.c.toNat) (by omega)]
  rw [ht]
  exact ⟨⟨by omega, by omega, hval⟩, decide_eq_true_iff.trans hcarry⟩

theorem sbcDec_of_digits {a m : Byte} {f : Flags} {ah al mh ml : Nat} (ha : WritesDigits a ah al)
    (hm : WritesDigits m mh ml) :
    let low : Int := al - ml + f.c.toNat - 1
    let high : Int := ah - mh + low / 10
    WritesDigits (sbcDec a m f).val (high % 10).toNat (low % 10).toNat := by
  intro low high
  have hc := f.c.toNat_le
  have ⟨hah, hal, _⟩ := ha
  have ⟨hmh, hml, _⟩ := hm
  have hval := corrected_high_difference (x := high) (l := low % 10) (by omega) (by omega) (by omega) (by omega)
  have ht : ((16 * ah : Nat) : Int) - (16 * mh : Nat) + (16 * (low / 10) + low % 10) = 16 * high + low % 10 := by omega
  rw [sbcDec_val]
  simp only [ha.div, ha.mod, hm.div, hm.mod,
    corrected_low_difference (x := al - ml + f.c.toNat - 1) (by omega) (by omega)]
  rw [ht]
  refine ⟨by omega, by omega, ?_⟩
  rw [BitVec.toNat_ofInt]
  omega

/-- Settles O40: carries and borrows at ten make the digits those of the decimal sum and difference. -/
theorem decimalModeIsDecimalArithmetic : Obligations.DecimalModeIsDecimalArithmetic := by
  intro a m f ha hm
  obtain ⟨ah, al, ha⟩ := exists_writesDigits ha
  obtain ⟨mh, ml, hm⟩ := exists_writesDigits hm
  have hc := f.c.toNat_le
  have ⟨hah, hal, hav⟩ := ha
  have ⟨hmh, hml, hmv⟩ := hm
  obtain ⟨hsum, hcarry⟩ := adcDec_of_digits (f := f) ha hm
  have hdiff := sbcDec_of_digits (f := f) ha hm
  rw [ha.bcdValue_eq, hm.bcdValue_eq]
  refine ⟨⟨hsum.isBcd, ?_, ?_⟩, ⟨hdiff.isBcd, ?_, ?_⟩⟩
  · rw [hsum.bcdValue_eq]
    omega
  · rw [hcarry]
    omega
  · rw [hdiff.bcdValue_eq]
    omega
  · rw [sbcDec_flags, sbcBin_eq, decide_eq_true_iff, difference]
    omega

end Sys2Proof.Machine
end

section
/-! Read-modify-write instructions: the shifts, INC and DEC on A and on memory, and the counts of X and Y (O46, O47). -/

namespace Sys2Proof.Machine

variable {i : Instr}

/-- A read-modify-write instruction: its result goes back where the byte loaded came from. -/
theorem exec_of_modifyEffect {f : Byte → Flags → AluResult} (hf : modifyEffect i.mnemonic = some f) (s : State) :
    ∃ l, loaded i s = some l ∧ exec i s = .next { stored i s (f l.val s.flags).val l.st with
      flags := (f l.val s.flags).flags
      cycles := s.cycles + l.cycles } := by
  rcases operand_of_modifyEffect hf with hacc | ⟨m, hm⟩
  · have hp : (entry i.opcode).pageCrossPenalty = false := by
      cases i <;> cases hacc <;> (simp only [Instr.opcode]; rfl)
    refine ⟨⟨s.a, (entry i.opcode).cycles, s⟩, by simp only [loaded, hacc], ?_⟩
    simp only [exec_eq_runModifyAcc hf hacc, runModifyAcc, cost_of_fixed hp, stored, hacc]
    rfl
  · have hl : loaded i s = some ⟨(busRead (effAddr m s).val.addr (effAddr m s).st).val,
        cost (entry i.opcode) (effAddr m s).val.cross false, (busRead (effAddr m s).val.addr (effAddr m s).st).st⟩ := by
      simp only [loaded, hm]
    obtain ⟨n, hn⟩ := loaded_st hl
    dsimp only at hn
    refine ⟨_, hl, ?_⟩
    simp only [exec_eq_runModify hf hm, runModify, stored, hm, hn, charge, State.setFlags_cycles, busWrite_cycles]
    rfl

/-! ### The results, by the value of the byte (R250-R255) -/

theorem getLsbD_0_eq (b : Byte) : b.getLsbD 0 = decide (b.toNat % 2 = 1) := by
  revert b
  apply forall_byte
  decide +kernel

theorem asl_eq (b : Byte) (f : Flags) : asl b f = ⟨BitVec.ofNat 8 (2 * b.toNat),
    { nz f (BitVec.ofNat 8 (2 * b.toNat)) with c := decide (128 ≤ b.toNat) }⟩ := by
  have hr : b <<< 1 = BitVec.ofNat 8 (2 * b.toNat) := by
    revert b
    apply forall_byte
    decide +kernel
  rw [asl, hr, setNZ_eq_nz, getLsbD_7_eq]

theorem lsr_eq (b : Byte) (f : Flags) : lsr b f = ⟨BitVec.ofNat 8 (b.toNat / 2),
    { nz f (BitVec.ofNat 8 (b.toNat / 2)) with c := decide (b.toNat % 2 = 1) }⟩ := by
  have hr : b >>> 1 = BitVec.ofNat 8 (b.toNat / 2) := by
    revert b
    apply forall_byte
    decide +kernel
  rw [lsr, hr, setNZ_eq_nz, getLsbD_0_eq]

theorem rol_eq (b : Byte) (f : Flags) : rol b f = ⟨BitVec.ofNat 8 (2 * b.toNat + f.c.toNat),
    { nz f (BitVec.ofNat 8 (2 * b.toNat + f.c.toNat)) with c := decide (128 ≤ b.toNat) }⟩ := by
  have hr (c : Bool) : b <<< 1 ||| flagBit c = BitVec.ofNat 8 (2 * b.toNat + c.toNat) := by
    revert b
    apply forall_byte
    cases c <;> decide +kernel
  rw [rol, hr, setNZ_eq_nz, getLsbD_7_eq]

theorem ror_eq (b : Byte) (f : Flags) : ror b f = ⟨BitVec.ofNat 8 (b.toNat / 2 + 128 * f.c.toNat),
    { nz f (BitVec.ofNat 8 (b.toNat / 2 + 128 * f.c.toNat)) with c := decide (b.toNat % 2 = 1) }⟩ := by
  have hr (c : Bool) : b >>> 1 ||| flagBit c <<< 7 = BitVec.ofNat 8 (b.toNat / 2 + 128 * c.toNat) := by
    revert b
    apply forall_byte
    cases c <;> decide +kernel
  rw [ror, hr, setNZ_eq_nz, getLsbD_0_eq]

theorem increment_eq (b : Byte) (f : Flags) :
    increment b f = ⟨BitVec.ofNat 8 (b.toNat + 1), nz f (BitVec.ofNat 8 (b.toNat + 1))⟩ := by
  have hr : b + 1 = BitVec.ofNat 8 (b.toNat + 1) := by bv_omega
  rw [increment, setNZ_eq_nz, hr]

theorem decrement_eq (b : Byte) (f : Flags) :
    decrement b f = ⟨BitVec.ofNat 8 (b.toNat + 255), nz f (BitVec.ofNat 8 (b.toNat + 255))⟩ := by
  have hr : b - 1 = BitVec.ofNat 8 (b.toNat + 255) := by bv_omega
  rw [decrement, setNZ_eq_nz, hr]

/-- Settles O46: the four differ in their result and in the bit they shift out. -/
theorem shiftsMoveBitIntoCarry : Obligations.ShiftsMoveBitIntoCarry := by
  intro i s hi
  simp only [List.mem_cons, List.not_mem_nil, or_false] at hi
  rcases hi with hi | hi | hi | hi
  · obtain ⟨l, hl, he⟩ := exec_of_modifyEffect (f := asl) (by rw [hi]; rfl) s
    exact ⟨l, hl, by simp [he, hi, asl_eq]⟩
  · obtain ⟨l, hl, he⟩ := exec_of_modifyEffect (f := lsr) (by rw [hi]; rfl) s
    exact ⟨l, hl, by simp [he, hi, lsr_eq]⟩
  · obtain ⟨l, hl, he⟩ := exec_of_modifyEffect (f := rol) (by rw [hi]; rfl) s
    exact ⟨l, hl, by simp [he, hi, rol_eq]⟩
  · obtain ⟨l, hl, he⟩ := exec_of_modifyEffect (f := ror) (by rw [hi]; rfl) s
    exact ⟨l, hl, by simp [he, hi, ror_eq]⟩

/-- Settles O47: INC and DEC by their results, and the counts of X and Y as registers written with their flags. -/
theorem incrementsWrapAndKeepCarry : Obligations.IncrementsWrapAndKeepCarry := by
  intro s
  refine ⟨fun i hi => ?memory, ?inx, ?iny, ?dex, ?dey⟩
  case memory =>
    rcases hi with hi | hi
    · obtain ⟨l, hl, he⟩ := exec_of_modifyEffect (f := increment) (by rw [hi]; rfl) s
      exact ⟨l, hl, by simp only [he, hi, increment_eq, if_true]⟩
    · obtain ⟨l, hl, he⟩ := exec_of_modifyEffect (f := decrement) (by rw [hi]; rfl) s
      exact ⟨l, hl, by simp [he, hi, decrement_eq]⟩
  case inx => rw [← charge_writeX]; exact exec_of_impliedEffect (i := .inx) rfl s
  case iny => rw [← charge_writeY]; exact exec_of_impliedEffect (i := .iny) rfl s
  case dex => rw [← charge_writeX]; exact exec_of_impliedEffect (i := .dex) rfl s
  case dey => rw [← charge_writeY]; exact exec_of_impliedEffect (i := .dey) rfl s

end Sys2Proof.Machine
end

section
/-! The frame of memory (O36). -/

namespace Sys2Proof.Machine

variable {i : Instr} {s t : State} {n : Mnemonic}

/-! ### Instructions that store to their operand -/

theorem storeSource_or_modifyEffect : ∀ n ∈ [Mnemonic.STA, .STX, .STY, .ASL, .LSR, .ROL, .ROR, .INC, .DEC],
    (storeSource n).isSome ∨ (modifyEffect n).isSome := by
  decide

/-- A store or a read-modify-write of memory is one bus write among changes that leave RAM. -/
theorem exec_ram_of_storing {m : MemOperand} (hm : i.operand = .mem m)
    (hi : (storeSource i.mnemonic).isSome ∨ (modifyEffect i.mnemonic).isSome) (h : exec i s = .next t) :
    ∃ (v : Byte) (k : Nat), t.ram = (busWrite (effAddr m s).val.addr v (s.setDraws k)).ram := by
  rcases hi with hi | hi
  · obtain ⟨src, hf⟩ := Option.isSome_iff_exists.1 hi
    obtain ⟨k, hk⟩ := effAddr_st s m
    cases ((exec_eq_runStore hf hm s).symm.trans h)
    exact ⟨_, k, by rw [hk]; rfl⟩
  · obtain ⟨f, hf⟩ := Option.isSome_iff_exists.1 hi
    obtain ⟨l, hl, he⟩ := exec_of_modifyEffect hf s
    obtain ⟨k, hk⟩ := loaded_st hl
    cases he.symm.trans h
    exact ⟨(f l.val s.flags).val, k, by simp only [stored, hm, hk]⟩

theorem exec_ram_read_of_storing {m : MemOperand} {b : Nat} (hs : s.Inv) (hm : i.operand = .mem m)
    (hi : (storeSource i.mnemonic).isSome ∨ (modifyEffect i.mnemonic).isSome) (h : exec i s = .next t)
    (hb : b ≠ (effAddr m s).val.addr.toNat) : t.ram.read b = s.ram.read b := by
  obtain ⟨v, k, hram⟩ := exec_ram_of_storing hm hi h
  rw [hram]
  exact busWrite_ram_read (s := s.setDraws k) _ v hs.ram_wf hb

/-! ### Instructions that store and push nothing -/

/-- What an instruction changes by bus writes alone: RAM, the latches, the stall and the bank flags. -/
def State.busSide (s : State) : Memory × Bool × Bool × Bool × Bool × Bool :=
  (s.ram, s.nmiPending, s.irqPending, s.stall, s.osEnabled, s.basicEnabled)

theorem busRead_busSide (addr : Word) (s : State) : (busRead addr s).st.busSide = s.busSide := by
  obtain ⟨n, hn⟩ := busRead_st s addr
  rw [hn]
  rfl

theorem effAddr_busSide (m : MemOperand) (s : State) : (effAddr m s).st.busSide = s.busSide := by
  obtain ⟨n, hn⟩ := effAddr_st s m
  rw [hn]
  rfl

theorem pull_busSide (s : State) : (pull s).st.busSide = s.busSide := busRead_busSide _ (s.setSp _)

theorem pullWord_busSide (s : State) : (pullWord s).st.busSide = s.busSide :=
  (pull_busSide _).trans (pull_busSide s)

theorem readEffect_busSide {f : Byte → State → State} (hf : readEffect n = some f) (v : Byte) (s : State) :
    (f v s).busSide = s.busSide := by
  cases n <;> cases hf <;> rfl

/-- The mnemonics that store to their operand or push. -/
def writingMnemonics : List Mnemonic := [.STA, .STX, .STY, .ASL, .LSR, .ROL, .ROR, .INC, .DEC, .PHA, .PHP, .JSR, .BRK]

theorem mem_writingMnemonics_of_storeSource {src : State → Byte} (hf : storeSource n = some src) :
    n ∈ writingMnemonics := by
  cases n <;> cases hf <;> decide

theorem mem_writingMnemonics_of_modifyEffect {f : Byte → Flags → AluResult} (hf : modifyEffect n = some f) :
    n ∈ writingMnemonics := by
  cases n <;> cases hf <;> decide

theorem impliedEffect_busSide {f : State → State} (hf : impliedEffect n = some f) (hn : n ∉ writingMnemonics)
    (s : State) : (f s).busSide = s.busSide := by
  cases n <;> cases hf
  case RTS => exact pullWord_busSide s
  case PLA | PLP => exact pull_busSide s
  case RTI => exact (pullWord_busSide _).trans (pull_busSide s)
  case PHA | PHP | BRK => exact absurd (by decide) hn
  all_goals rfl

theorem jumpEffect_busSide {f : Word → State → State} (hf : jumpEffect n = some f) (hn : n ∉ writingMnemonics)
    (w : Word) (s : State) : (f w s).busSide = s.busSide := by
  cases n <;> cases hf
  case JMP => rfl
  case JSR => exact absurd (by decide) hn

theorem exec_busSide_of_acc (hacc : i.operand = .acc) (h : exec i s = .next t) : t.busSide = s.busSide := by
  obtain ⟨f, hf⟩ : ∃ f, modifyEffect i.mnemonic = some f := by cases i <;> cases hacc <;> exact ⟨_, rfl⟩
  cases (exec_eq_runModifyAcc hf hacc s).symm.trans h
  rfl

theorem exec_busSide (hi : i.mnemonic ∉ writingMnemonics) (h : exec i s = .next t) : t.busSide = s.busSide := by
  cases execShape i with
  | imm v f hf he =>
    cases (he s).symm.trans h
    exact readEffect_busSide hf v s
  | read m f hf he =>
    cases (he s).symm.trans h
    exact (readEffect_busSide hf _ _).trans ((busRead_busSide _ _).trans (effAddr_busSide m s))
  | store m src hf he => exact absurd (mem_writingMnemonics_of_storeSource hf) hi
  | modifyAcc f hf he | modify m f hf he => exact absurd (mem_writingMnemonics_of_modifyEffect hf) hi
  | implied f hf he =>
    cases (he s).symm.trans h
    exact impliedEffect_busSide hf hi s
  | branch d c hf he =>
    cases (he s).symm.trans h
    cases c s.flags <;> rfl
  | jump m f hf he =>
    cases (he s).symm.trans h
    exact (jumpEffect_busSide hf hi _ _).trans (effAddr_busSide m s)
  | ill hf he =>
    cases (he s).symm.trans h
    rfl

/-- Settles O36: RAM changes by the one bus write of a store, or by a push. -/
theorem onlyTheStoredCellChanges : Obligations.OnlyTheStoredCellChanges := by
  refine fun i s t hs h => ⟨fun hi m b hm hb => ?stored, fun hi => ?kept⟩
  case stored => exact exec_ram_read_of_storing hs hm (storeSource_or_modifyEffect _ hi) h hb
  case kept =>
    have hkept : t.busSide = s.busSide := hi.elim (exec_busSide_of_acc · h) (exec_busSide · h)
    simpa only [State.busSide, Prod.mk.injEq] using hkept

end Sys2Proof.Machine
end

section
/-! RTI after an interrupt entry (O59). -/

namespace Sys2Proof.Machine

/-- The three bytes interrupt entry pushes, read back from where RTI pulls them: the three cells differ, also where SP
wraps. -/
theorem read_pushed_frame {m : Memory} (h : m.wf = true) (sp hi lo p : Byte) :
    let r := ((m.write (stackCell sp) hi).write (stackCell (sp - 1)) lo).write (stackCell (sp - 2)) p
    r.read (stackCell (sp - 3 + 1)) = p ∧ r.read (stackCell (sp - 3 + 2)) = lo ∧
      r.read (stackCell (sp - 3 + 3)) = hi := by
  intro r
  have h1 : sp - 3 + 1 = sp - 2 := by bv_omega
  have h2 : sp - 3 + 2 = sp - 1 := by bv_omega
  have h3 : sp - 3 + 3 = sp := BitVec.sub_add_cancel sp 3
  have hne₁ : stackCell (sp - 1) ≠ stackCell (sp - 2) := by rw [Ne, stackCell_inj]; bv_omega
  have hne₂ : stackCell sp ≠ stackCell (sp - 2) := by rw [Ne, stackCell_inj]; bv_omega
  have hne₃ : stackCell sp ≠ stackCell (sp - 1) := by rw [Ne, stackCell_inj]; bv_omega
  have hwf₁ := Memory.write_wf h (stackCell sp) hi
  have hwf₂ := Memory.write_wf hwf₁ (stackCell (sp - 1)) lo
  rw [h1, h2, h3]
  refine ⟨Memory.read_write_same hwf₂ _ p, ?_, ?_⟩
  · rw [Memory.read_write_other hwf₂ _ hne₁, Memory.read_write_same hwf₁]
  · rw [Memory.read_write_other hwf₂ _ hne₂, Memory.read_write_other hwf₁ _ hne₃, Memory.read_write_same h]

/-- Settles O59: RTI pulls the frame the entry pushed, and neither moves A, X or Y. -/
theorem rtiUndoesInterruptEntry : Obligations.RtiUndoesInterruptEntry := by
  intro k s h
  obtain ⟨saved, hsaved, hentry⟩ := takeInterrupt_spec h.windows s.pc false k.vector
  obtain ⟨n, hn⟩ := read16_st saved k.vector
  obtain ⟨hp, hlo, hhi⟩ := read_pushed_frame h.ram_wf s.sp (hiByte s.pc) (loByte s.pc) (s.flags.pack false)
  have hlegal : (enterInterrupt k s).windowsLegal = true := by
    rw [enterInterrupt, hentry, hn, hsaved]
    exact h.windows
  obtain ⟨-, hrti⟩ := rtiRestoresStatusAndPc (enterInterrupt k s) hlegal
  refine ⟨_, hrti, ?_⟩
  rw [enterInterrupt, hentry, hn, hsaved]
  refine ⟨?_, ?_, ?_, rfl, rfl, rfl⟩
  · exact (congrArg₂ mkWord hhi hlo).trans (mkWord_hiByte_loByte s.pc)
  · exact (congrArg Flags.unpack hp).trans (Flags.unpack_pack s.flags false)
  · exact BitVec.sub_add_cancel s.sp 3

end Sys2Proof.Machine
end
